-- ==== Sys2Proof/Word.lean ====
section
/-!
DEFINITION. The plainest data of the model: bytes, 32-bit words, the index types of 00_scope.md section 5.2, and
`Table`, a store of a fixed number of like records held as plain data.
-/

namespace Sys2Proof

/-- A byte of a frame, a ring slot or an outlet link frame. -/
abbrev Byte := BitVec 8

/-- A 32-bit number that wraps: seconds values, record sequence numbers, energy counters (R17, R111, R47). -/
abbrev Word := BitVec 32

/-- Management port P0 to P3 (00_scope.md section 5.2). -/
abbrev Port := Fin 4

/-- Tenant index 0 to 63 (R1). -/
abbrev TenantId := Fin 64

/-- Outlet number 0 to 383 (R29). -/
abbrev OutletId := Fin 384

/-- Module index 0 to 15, its address on the outlet link (R21). -/
abbrev ModuleId := Fin 16

/-- Channel 0 to 23, an outlet's position within its module (00_scope.md section 5.2). -/
abbrev Channel := Fin 24

/-- Window slot 0 to 95 (R39). -/
abbrev WindowSlot := Fin 96

/-- A store of exactly `n` records, indexed by `Fin n`, held as a list. -/
structure Table (α : Type) (n : Nat) where
  list : List α
  size : list.length = n
  deriving DecidableEq, Repr

namespace Table

variable {α β : Type} {n : Nat}

/-- Record `i`. -/
def get (t : Table α n) (i : Fin n) : α := t.list[i.val]'(by rw [t.size]; exact i.isLt)

/-- Record `i` replaced by `x`. -/
def set (t : Table α n) (i : Fin n) (x : α) : Table α n :=
  ⟨t.list.set i.val x, by rw [List.length_set]; exact t.size⟩

/-- Record `i` replaced by its image under `f`. -/
def modify (t : Table α n) (i : Fin n) (f : α → α) : Table α n := t.set i (f (t.get i))

/-- Every record replaced by its image under `f`, which also reads the index. -/
def imap (t : Table α n) (f : Fin n → α → β) : Table β n :=
  ⟨List.zipWith f (List.finRange n) t.list, by simp [t.size]⟩

/-- The table that holds `f i` at every `i`. -/
def tabulate (n : Nat) (f : Fin n → α) : Table α n := ⟨(List.finRange n).map f, by simp⟩

/-- The table that holds `x` everywhere. -/
def fill (n : Nat) (x : α) : Table α n := ⟨List.replicate n x, by simp⟩

end Table

end Sys2Proof
end

