-- ==== Sys2Proof/Syntax.lean ====
section
/-!
DEFINITION. The commands of the TD-4820: one constructor of `Instr` for each row of spec/opcode_table.json.

A management request carries the port it comes from, the moment of its frame that the command stands for, and
its argument bytes as they are clocked in (Table 11-3), so that an encoding no table lists can be carried and
refused. An outlet link event carries the bytes that the part receives (Table 11-7).
-/

namespace Sys2Proof

/-- The two ends of the frame of a request that has no response (00_scope.md section 5.4).
DESIGN CHOICE (log entry 6): a command at `selectRises` alone is the whole frame. -/
inductive FrameEdge where
  /-- PnSEL falls: the frame begins and the port samples its status byte (R161). -/
  | selectFalls
  /-- PnSEL rises: the frame ends and its request is taken (R159). -/
  | selectRises
  deriving DecidableEq, Repr

/-- The three moments of the frame of a read request.
DESIGN CHOICE (log entry 6): a command at `selectRises` alone is the whole frame. -/
inductive ReadMoment where
  /-- PnSEL falls: the frame begins and the port samples its status byte (R161). -/
  | selectFalls
  /-- The last fixed argument byte is complete: the response is formed (R159). -/
  | snapshot
  /-- PnSEL rises: the result of the snapshot is recorded (R159). -/
  | selectRises
  deriving DecidableEq, Repr

/-- A command to the part: one constructor for each row of spec/opcode_table.json, in the table's order. -/
inductive Instr where
  /-- PART_RESET (R140). -/
  | partReset
  /-- RESET_RELEASE (R156): bit `n` of `role1` and `role0` is the level of strap PnROLE1 and PnROLE0. -/
  | resetRelease (role1 role0 : BitVec 4)
  /-- SECOND_TICK (R17). -/
  | secondTick
  /-- DUE_POINT (R18). -/
  | duePoint
  /-- CLAIM_EXPIRY (R144). -/
  | claimExpiry
  /-- ACTUATION_HOLD_ASSERT (R108). -/
  | actuationHoldAssert
  /-- ACTUATION_HOLD_RELEASE (R109). -/
  | actuationHoldRelease
  /-- POLL_START (R23). -/
  | pollStart
  /-- POLL_ANSWER_RECEIVED (R24): the bytes of the answer. -/
  | pollAnswerReceived (answer : List Byte)
  /-- POLL_ANSWER_TIMEOUT (R24). -/
  | pollAnswerTimeout
  /-- MODULE_ENTERS_LOST (R27) of module `m`. -/
  | moduleEntersLost (m : ModuleId)
  /-- RELAY_EXCHANGE_START (R100). -/
  | relayExchangeStart
  /-- RELAY_ECHO_RECEIVED (R101): the bytes of the echo. -/
  | relayEchoReceived (echo : List Byte)
  /-- RELAY_ECHO_TIMEOUT (R101). -/
  | relayEchoTimeout
  /-- SWEEP_ACCOUNTING (R28). -/
  | sweepAccounting
  /-- ENTRY_TIMEOUT (R104) of the queue entry of outlet `o`. -/
  | entryTimeout (o : OutletId)
  /-- SCHEDULED_CLOSE_START (R114). -/
  | scheduledCloseStart
  /-- CLOSE_BUILD_RECORD (R121). -/
  | closeBuildRecord
  /-- CLOSE_APPLY (R123). -/
  | closeApply
  /-- CLOSE_RESET_ACCUMULATORS (R124). -/
  | closeResetAccumulators
  /-- CLOSE_COMPLETE (R125). -/
  | closeComplete
  /-- FRAME_DISCARD (R160). -/
  | frameDiscard (p : Port) (e : FrameEdge)
  /-- EMPTY_FRAME (R160). -/
  | emptyFrame (p : Port) (e : FrameEdge)
  /-- DISABLED_PORT_FRAME (R157). -/
  | disabledPortFrame (p : Port) (e : FrameEdge)
  /-- UNKNOWN_REQUEST (R160) with request code `code`. -/
  | unknownRequest (p : Port) (e : FrameEdge) (code : Byte)
  /-- IDENTIFY (R164). -/
  | identify (p : Port) (m : ReadMoment)
  /-- READ_PORT (R164). -/
  | readPort (p : Port) (m : ReadMoment)
  /-- READ_SEAL_REPORT (R164). -/
  | readSealReport (p : Port) (m : ReadMoment)
  /-- READ_TENANT (R165). -/
  | readTenant (p : Port) (m : ReadMoment) (index : Byte)
  /-- READ_COMPLIANCE (R165). -/
  | readCompliance (p : Port) (m : ReadMoment)
  /-- READ_OUTLET (R166). -/
  | readOutlet (p : Port) (m : ReadMoment) (outlet : BitVec 16)
  /-- READ_MODULE (R166). -/
  | readModule (p : Port) (m : ReadMoment) (module : Byte)
  /-- READ_QUEUE (R166). -/
  | readQueue (p : Port) (m : ReadMoment)
  /-- READ_CONFIG (R147); `lock` is the level of the CONFIG_LOCK line at the moment (R151). -/
  | readConfig (p : Port) (m : ReadMoment) (view : Byte) (lock : Bool)
  /-- CLEAR_NOTICES (R163). -/
  | clearNotices (p : Port) (e : FrameEdge) (notices : BitVec 16)
  /-- SET_ALERT_MASK (R163). -/
  | setAlertMask (p : Port) (e : FrameEdge) (notices : BitVec 16)
  /-- RESET_PORT (R167). -/
  | resetPort (p : Port) (e : FrameEdge)
  /-- SUBSCRIBE (R133). -/
  | subscribe (p : Port) (e : FrameEdge) (mode : Byte)
  /-- READ_RECORDS (R135); at the rise of select, `lastSlotWhole` says that the last slot begun was clocked out in full. -/
  | readRecords (p : Port) (m : ReadMoment) (lastSlotWhole : Bool)
  /-- RECORD_SLOT_STREAMED (R134): the first byte of the frame's next slot begins. -/
  | recordSlotStreamed (p : Port)
  /-- ACK_RECORDS (R137). -/
  | ackRecords (p : Port) (e : FrameEdge) (sequence : Word)
  /-- SEEK_DELIVERY (R138). -/
  | seekDelivery (p : Port) (e : FrameEdge) (sequence : Word)
  /-- OPEN_AMENDMENT (R145). -/
  | openAmendment (p : Port) (e : FrameEdge)
  /-- TAKEOVER_AMENDMENT (R154). -/
  | takeoverAmendment (p : Port) (e : FrameEdge)
  /-- RECALL_SEALED (R153). -/
  | recallSealed (p : Port) (e : FrameEdge)
  /-- DISCARD_AMENDMENT (R152). -/
  | discardAmendment (p : Port) (e : FrameEdge)
  /-- SEAL_AMENDMENT (R148); `lock` is the level of the CONFIG_LOCK line as the seal is taken (R151). -/
  | sealAmendment (p : Port) (e : FrameEdge) (timing : Byte) (lock : Bool)
  /-- STAGE_TENANT (R2), the arguments in the order of Table 11-3. -/
  | stageTenant (p : Port) (e : FrameEdge) (tenant state : Byte) (committed ceiling qmax restore : Word)
      (shift dwell policy cls : Byte)
  /-- STAGE_WINDOW (R40). -/
  | stageWindow (p : Port) (e : FrameEdge) (slot operation : Byte) (first last : BitVec 16) (tenant : Byte)
  /-- STAGE_SHED_LIST (R73). -/
  | stageShedList (p : Port) (e : FrameEdge) (tenant count : Byte) (outlets : List (BitVec 16))
  /-- STAGE_MODULE (R146). -/
  | stageModule (p : Port) (e : FrameEdge) (module used feed : Byte)
  /-- STAGE_TIMING (R146). -/
  | stageTiming (p : Port) (e : FrameEdge) (period : Byte) (length : BitVec 16) (timeout : Byte)
  /-- SET_OUTLET (R92). -/
  | setOutlet (p : Port) (e : FrameEdge) (outlet : BitVec 16) (action : Byte)
  /-- RESTORE_TENANT (R90). -/
  | restoreTenant (p : Port) (e : FrameEdge) (tenant : Byte)
  /-- END_INTERVAL (R115). -/
  | endInterval (p : Port) (e : FrameEdge)
  deriving DecidableEq, Repr

end Sys2Proof
end

