-- ==== Sys2Proof/Decode.lean ====
section
/-!
DEFINITION. From bits to commands. The rows of spec/opcode_table.json give no bits, so no word spells a command. What
the spec does lay out is the management frame (R160, R168, Table 11-3): `decodeFrame` reads a whole frame's bytes as
its command, and `encodeFrame` writes a request's bytes.
-/

namespace Sys2Proof

/-- The command that a table word spells: none, since no row of the table gives bits (log entry 31). -/
def decodeTableWord (_nbits _w : Nat) : Option Instr := none

/-- Request codes (Table 11-3). -/
def requestCodes : List Byte :=
  [0x10, 0x11, 0x12, 0x13, 0x14, 0x15, 0x16, 0x17, 0x18, 0x20, 0x21, 0x22, 0x30, 0x31, 0x32, 0x33,
   0x40, 0x41, 0x42, 0x43, 0x44, 0x45, 0x46, 0x47, 0x48, 0x49, 0x50, 0x51, 0x52]

/-! ### Fields, most significant byte first (R168) -/

/-- A two-byte field. -/
def word16 (b1 b0 : Byte) : BitVec 16 := b1 ++ b0

/-- A four-byte field. -/
def word32 (b3 b2 b1 b0 : Byte) : Word := word16 b3 b2 ++ word16 b1 b0

/-- The bytes of a two-byte field. -/
def bytes16 (w : BitVec 16) : List Byte := [w.extractLsb' 8 8, w.extractLsb' 0 8]

/-- The bytes of a four-byte field. -/
def bytes32 (w : Word) : List Byte :=
  [w.extractLsb' 24 8, w.extractLsb' 16 8, w.extractLsb' 8 8, w.extractLsb' 0 8]

/-- The two-byte entries of a list field, as many as `n`, where the bytes hold that many (R168). -/
def entries16 : Nat → List Byte → List (BitVec 16)
  | n + 1, b1 :: b0 :: rest => word16 b1 b0 :: entries16 n rest
  | _, _ => []

/-! ### Frames -/

/-- The argument bytes of a request read as its command (Table 11-3); bytes past its full length are ignored, and a
frame that ends within its fixed arguments is discarded (R160). -/
def decodeArgs (p : Port) (lock lastSlotWhole : Bool) (code : Byte) (args : List Byte) : Instr :=
  match code.toNat, args with
  | 0x10, _ => .identify p .selectRises
  | 0x11, _ => .readPort p .selectRises
  | 0x12, _ => .readSealReport p .selectRises
  | 0x13, i :: _ => .readTenant p .selectRises i
  | 0x14, _ => .readCompliance p .selectRises
  | 0x15, b1 :: b0 :: _ => .readOutlet p .selectRises (word16 b1 b0)
  | 0x16, m :: _ => .readModule p .selectRises m
  | 0x17, _ => .readQueue p .selectRises
  | 0x18, v :: _ => .readConfig p .selectRises v lock
  | 0x20, b1 :: b0 :: _ => .clearNotices p .selectRises (word16 b1 b0)
  | 0x21, b1 :: b0 :: _ => .setAlertMask p .selectRises (word16 b1 b0)
  | 0x22, _ => .resetPort p .selectRises
  | 0x30, m :: _ => .subscribe p .selectRises m
  | 0x31, _ => .readRecords p .selectRises lastSlotWhole
  | 0x32, b3 :: b2 :: b1 :: b0 :: _ => .ackRecords p .selectRises (word32 b3 b2 b1 b0)
  | 0x33, b3 :: b2 :: b1 :: b0 :: _ => .seekDelivery p .selectRises (word32 b3 b2 b1 b0)
  | 0x40, _ => .openAmendment p .selectRises
  | 0x41, _ => .takeoverAmendment p .selectRises
  | 0x42, _ => .recallSealed p .selectRises
  | 0x43, _ => .discardAmendment p .selectRises
  | 0x44, t :: _ => .sealAmendment p .selectRises t lock
  | 0x45, i :: a :: c3 :: c2 :: c1 :: c0 :: k3 :: k2 :: k1 :: k0 :: q3 :: q2 :: q1 :: q0 :: r3 :: r2 :: r1 :: r0
      :: h :: d :: y :: x :: _ =>
    .stageTenant p .selectRises i a (word32 c3 c2 c1 c0) (word32 k3 k2 k1 k0) (word32 q3 q2 q1 q0)
      (word32 r3 r2 r1 r0) h d y x
  | 0x46, n :: o :: f1 :: f0 :: l1 :: l0 :: i :: _ =>
    .stageWindow p .selectRises n o (word16 f1 f0) (word16 l1 l0) i
  | 0x47, i :: n :: rest =>
    if n.toNat ≤ 16 ∧ rest.length < 2 * n.toNat then .frameDiscard p .selectRises
    else .stageShedList p .selectRises i n (if n.toNat ≤ 16 then entries16 n.toNat rest else [])
  | 0x48, m :: u :: f :: _ => .stageModule p .selectRises m u f
  | 0x49, t :: l1 :: l0 :: c :: _ => .stageTiming p .selectRises t (word16 l1 l0) c
  | 0x50, b1 :: b0 :: a :: _ => .setOutlet p .selectRises (word16 b1 b0) a
  | 0x51, i :: _ => .restoreTenant p .selectRises i
  | 0x52, _ => .endInterval p .selectRises
  | _, _ => if code ∈ requestCodes then .frameDiscard p .selectRises else .unknownRequest p .selectRises code

/-- The command of a whole frame of port `p` (R160): its bytes, whether select rose on a byte boundary, the level of the
CONFIG_LOCK line, and for READ_RECORDS whether its last slot was clocked out in full. -/
def decodeFrame (p : Port) (onBoundary lock lastSlotWhole : Bool) : List Byte → Instr
  | [] => if onBoundary then .emptyFrame p .selectRises else .frameDiscard p .selectRises
  | code :: args =>
    if onBoundary then decodeArgs p lock lastSlotWhole code args else .frameDiscard p .selectRises

/-- The bytes of a request's frame (Table 11-3); none for a command that is no request with a code of its own. -/
def encodeFrame : Instr → Option (List Byte)
  | .identify _ _ => some [0x10]
  | .readPort _ _ => some [0x11]
  | .readSealReport _ _ => some [0x12]
  | .readTenant _ _ i => some [0x13, i]
  | .readCompliance _ _ => some [0x14]
  | .readOutlet _ _ o => some (0x15 :: bytes16 o)
  | .readModule _ _ m => some [0x16, m]
  | .readQueue _ _ => some [0x17]
  | .readConfig _ _ v _ => some [0x18, v]
  | .clearNotices _ _ n => some (0x20 :: bytes16 n)
  | .setAlertMask _ _ n => some (0x21 :: bytes16 n)
  | .resetPort _ _ => some [0x22]
  | .subscribe _ _ m => some [0x30, m]
  | .readRecords _ _ _ => some [0x31]
  | .ackRecords _ _ q => some (0x32 :: bytes32 q)
  | .seekDelivery _ _ q => some (0x33 :: bytes32 q)
  | .openAmendment _ _ => some [0x40]
  | .takeoverAmendment _ _ => some [0x41]
  | .recallSealed _ _ => some [0x42]
  | .discardAmendment _ _ => some [0x43]
  | .sealAmendment _ _ t _ => some [0x44, t]
  | .stageTenant _ _ i a c k q r h d y x =>
    some ([0x45, i, a] ++ bytes32 c ++ bytes32 k ++ bytes32 q ++ bytes32 r ++ [h, d, y, x])
  | .stageWindow _ _ n o f l i => some ([0x46, n, o] ++ bytes16 f ++ bytes16 l ++ [i])
  | .stageShedList _ _ i n os => some ([0x47, i, n] ++ os.flatMap bytes16)
  | .stageModule _ _ m u f => some [0x48, m, u, f]
  | .stageTiming _ _ t l c => some ([0x49, t] ++ bytes16 l ++ [c])
  | .setOutlet _ _ o a => some (0x50 :: bytes16 o ++ [a])
  | .restoreTenant _ _ i => some [0x51, i]
  | .endInterval _ _ => some [0x52]
  | .unknownRequest _ _ c => some [c]
  | .emptyFrame _ _ => some []
  | .frameDiscard _ _ | .disabledPortFrame _ _ | .recordSlotStreamed _
  | .partReset | .resetRelease _ _ | .secondTick | .duePoint | .claimExpiry | .actuationHoldAssert
  | .actuationHoldRelease | .pollStart | .pollAnswerReceived _ | .pollAnswerTimeout | .moduleEntersLost _
  | .relayExchangeStart | .relayEchoReceived _ | .relayEchoTimeout | .sweepAccounting | .entryTimeout _
  | .scheduledCloseStart | .closeBuildRecord | .closeApply | .closeResetAccumulators | .closeComplete => none

/-- A command with its frame's own circumstances set: port, the rise of select, the CONFIG_LOCK level and whether the
last slot was whole. A command that `encodeFrame` gives no bytes is left as it is. -/
def Instr.asFrame (p : Port) (lock lastSlotWhole : Bool) : Instr → Instr
  | .identify _ _ => .identify p .selectRises
  | .readPort _ _ => .readPort p .selectRises
  | .readSealReport _ _ => .readSealReport p .selectRises
  | .readTenant _ _ i => .readTenant p .selectRises i
  | .readCompliance _ _ => .readCompliance p .selectRises
  | .readOutlet _ _ o => .readOutlet p .selectRises o
  | .readModule _ _ m => .readModule p .selectRises m
  | .readQueue _ _ => .readQueue p .selectRises
  | .readConfig _ _ v _ => .readConfig p .selectRises v lock
  | .clearNotices _ _ n => .clearNotices p .selectRises n
  | .setAlertMask _ _ n => .setAlertMask p .selectRises n
  | .resetPort _ _ => .resetPort p .selectRises
  | .subscribe _ _ m => .subscribe p .selectRises m
  | .readRecords _ _ _ => .readRecords p .selectRises lastSlotWhole
  | .ackRecords _ _ q => .ackRecords p .selectRises q
  | .seekDelivery _ _ q => .seekDelivery p .selectRises q
  | .openAmendment _ _ => .openAmendment p .selectRises
  | .takeoverAmendment _ _ => .takeoverAmendment p .selectRises
  | .recallSealed _ _ => .recallSealed p .selectRises
  | .discardAmendment _ _ => .discardAmendment p .selectRises
  | .sealAmendment _ _ t _ => .sealAmendment p .selectRises t lock
  | .stageTenant _ _ i a c k q r h d y x => .stageTenant p .selectRises i a c k q r h d y x
  | .stageWindow _ _ n o f l i => .stageWindow p .selectRises n o f l i
  | .stageShedList _ _ i n os => .stageShedList p .selectRises i n os
  | .stageModule _ _ m u f => .stageModule p .selectRises m u f
  | .stageTiming _ _ t l c => .stageTiming p .selectRises t l c
  | .setOutlet _ _ o a => .setOutlet p .selectRises o a
  | .restoreTenant _ _ i => .restoreTenant p .selectRises i
  | .endInterval _ _ => .endInterval p .selectRises
  | .unknownRequest _ _ c => .unknownRequest p .selectRises c
  | .emptyFrame _ _ => .emptyFrame p .selectRises
  | i => i

end Sys2Proof
end

