-- ==== Sys2Proof/Config.lean ====
section
/-!
DEFINITION. The free values: what the spec leaves open and the model does not choose. Each is an opaque constant
with no body, so that nothing can be proved of its value; a claim about one holds for every value.
-/

namespace Sys2Proof.Config

/-- Whether `a` counts as later than `b` when their difference modulo 2^32 is exactly 2^31. R111 compares
sequence numbers "on their difference modulo 2^32" and does not say which way this one difference falls
(log entry 10). -/
opaque laterAtHalf (a b : Word) : Bool

/-- The first pool slot that READ_CONFIG shows for a tenant whose committed shed list is empty, by tenant and by
the length of the lists before it. R75: such a tenant "occupies no slot" (log entry 17). -/
opaque emptyListPoolSlot (tenant before : Nat) : BitVec 16

/-- The number READ_OUTLET shows for the head position of the actuation queue; the positions behind it follow on
(R166 does not say where the count of positions begins; log entry 16). -/
opaque firstQueuePosition : Byte

/-- The four bytes that carry a sweeps counted of 2^32 or more, which no rule bounds (log entry 21). -/
opaque sweepsCountedOverflow (counted : Nat) : Word

end Sys2Proof.Config
end

