-- ==== Sys2Proof/Machine/State.lean ====
section
/-!
DEFINITION. The state of the part as plain data: every register, table, queue, store and pin that the spec names,
the queue of waiting commands, and the state right after reset.
-/

namespace Sys2Proof.Machine

/-! ### Enumerations (Table 11-4, Table 10-3, Table 10-4) -/

/-- Port roles (Table 10-1). -/
inductive Role where
  | disabled | viewer | collector | facility
  deriving DecidableEq, Repr

/-- Result codes 0 to 15 (Table 10-3). -/
inductive Result where
  | ok | frame | unknown | role | range | busy | claimed | notClaimant | noneOpen | pending | locked | invalid
  | ringFull | outletBusy | curtailed | notSubscribed
  deriving DecidableEq, Repr

/-- Notices 0 to 13 (Table 10-4). -/
inductive Notice where
  | intervalClosed | ringFullExtended | tenantLimit | moduleLost | moduleBack | actuationFault | correctionVoid
  | sweepOverrun | amendmentApplied | claimChanged | claimLost | recordsSkipped | frameDiscarded | ringLow
  deriving DecidableEq, Repr

/-- Part run state (00_scope.md section 3.3, R112). -/
inductive RunState where
  | unconfigured | running
  deriving DecidableEq, Repr

/-- A feed of the shelf (R44). -/
inductive Feed where
  | a | b
  deriving DecidableEq, Repr

/-- Module states (Table 2-2). -/
inductive ModuleState where
  | unused | awaiting | present | missed | lost
  deriving DecidableEq, Repr

/-- An outlet's relay field (Table 2-3). -/
inductive Relay where
  | closed | opened | unknown
  deriving DecidableEq, Repr

/-- Why an outlet's relay is where it is (R77). -/
inductive Cause where
  | none | shed | admin | foreign
  deriving DecidableEq, Repr

/-- A relay command's action (Table 6-1). -/
inductive Action where
  | opening | closing
  deriving DecidableEq, Repr

/-- Contract policy (R10). -/
inductive Policy where
  | report | shedManual | shedAuto
  deriving DecidableEq, Repr

/-- Contract class (R11). -/
inductive TenantClass where
  | singleA | singleB | paired
  deriving DecidableEq, Repr

/-- Compliance zone (R63). -/
inductive Zone where
  | within | burst | exhausted | over
  deriving DecidableEq, Repr

/-- Curtailment state (R78). -/
inductive Curtailment where
  | clear | curtailed | listSpent | restoring
  deriving DecidableEq, Repr

/-! ### Configuration (R141) -/

/-- The contract part of a tenant record without its shed list (Table 1-1). -/
structure Contract where
  active : Bool
  committed : Nat
  ceiling : Nat
  qmax : Nat
  restore : Nat
  shift : Nat
  dwell : Nat
  policy : Policy
  cls : TenantClass
  deriving DecidableEq, Repr

/-- The empty contract (Table 1-2). -/
def Contract.empty : Contract :=
  { active := false, committed := 1, ceiling := 1, qmax := 0, restore := 0, shift := 0, dwell := 1,
    policy := .report, cls := .paired }

/-- A window of consecutive outlets, first to last inclusive, of one tenant (R39). -/
structure Window where
  first : OutletId
  last : OutletId
  tenant : TenantId
  deriving DecidableEq, Repr

/-- The configuration fields of a module record (Table 2-1). -/
structure ModuleConfig where
  used : Bool
  feed : Feed
  deriving DecidableEq, Repr

/-- Part timing in seconds: sweep period t, interval length L and claim timeout (Table 9-2). -/
structure Timing where
  period : Nat
  length : Nat
  timeout : Nat
  deriving DecidableEq, Repr

/-- A complete configuration as the shadow holds it: shed lists per tenant at their own length (R73, R141). -/
structure Configuration where
  contracts : Table Contract 64
  lists : Table (List OutletId) 64
  windows : Table (Option Window) 96
  modules : Table ModuleConfig 16
  timing : Timing
  deriving DecidableEq, Repr

/-- Where a tenant's shed list lies in the pool. -/
structure Extent where
  first : Nat
  length : Nat
  deriving DecidableEq, Repr

/-- The shed-list pool (R75): the occupied slots from slot 0 upward (every later slot of the 512 is empty) and
each tenant's place among them. -/
structure Pool where
  slots : List OutletId
  extents : Table Extent 64
  deriving DecidableEq, Repr

/-- The committed configuration (R141), its shed lists laid out in the pool (R75). -/
structure Committed where
  contracts : Table Contract 64
  pool : Pool
  windows : Table (Option Window) 96
  modules : Table ModuleConfig 16
  timing : Timing
  deriving DecidableEq, Repr

/-! ### Outlet link (chapters 2 and 6) -/

/-- The live fields of a module record (Table 2-1). -/
structure ModuleLive where
  state : ModuleState
  misses : Nat
  feedPresent : Bool
  moduleFault : Bool
  deriving DecidableEq, Repr

/-- The outlet record (Table 2-3) but for its entry reference, which is the queue's entry for the outlet. -/
structure Outlet where
  power : Nat
  baseline : Option Word
  estimate : Nat
  gap : Nat
  relay : Relay
  cause : Cause
  fault : Bool
  deriving DecidableEq, Repr

/-- The initial values of an outlet record (Table 2-3). -/
def Outlet.initial : Outlet :=
  { power := 0, baseline := none, estimate := 0, gap := 0, relay := .unknown, cause := .none, fault := false }

/-- One channel block of an answer (Table 11-8), with the channel-valid flag as R172 has it taken. -/
structure Block where
  valid : Bool
  opened : Bool
  power : Nat
  counter : Word
  deriving DecidableEq, Repr

/-- A good answer held in a sweep's capture (R24). -/
structure Answer where
  feedPresent : Bool
  moduleFault : Bool
  blocks : Table Block 24
  deriving DecidableEq, Repr

/-- The running sweep: its progress over the module table and its capture (R19, R23, R24, R25, R28). -/
structure Sweep where
  /-- The late sweep that overrun due points owe (R19, R20). -/
  owed : Bool
  /-- The index the sweep comes to next; 16 when it has passed index 15 (R23). -/
  next : Nat
  /-- The module whose first poll failed and whose retry is the sweep's next poll (R25). -/
  retry : Option ModuleId
  /-- The polls are finished and the sweep waits for its accounting (R28). -/
  finished : Bool
  /-- The moment at which each module's last poll in this sweep began; none where it was not polled (R103). -/
  lastPoll : Table (Option Nat) 16
  /-- The good answers of the sweep (R24). -/
  capture : Table (Option Answer) 16
  deriving DecidableEq, Repr

/-- The exchange on the outlet link (R99). -/
inductive Exchange where
  /-- A poll of `module`; `retry` is the second poll of R25; `dropped` once an application made the module unused (R23). -/
  | poll (module : ModuleId) (retry dropped : Bool)
  /-- A relay exchange; `live` until the entry it is made for leaves the queue (R102). -/
  | relay (outlet : OutletId) (action : Action) (live : Bool)
  deriving DecidableEq, Repr

/-- The gap the link is in and, for a poll gap, how many relay exchanges were placed there (R99). -/
inductive Gap where
  | idle
  | poll (placed : Nat)
  deriving DecidableEq, Repr

/-- The link arbiter (R99). -/
structure Link where
  exchange : Option Exchange
  gap : Gap
  /-- The bytes of the frame the part sent last on LINK_D (R171); the model's own view of the pin. -/
  sent : List Byte
  /-- How many exchanges have begun or ended: the model's own clock of issue points and poll starts (R103).
  DESIGN CHOICE (log entry 15). -/
  moment : Nat
  deriving DecidableEq, Repr

/-- Who a queue entry comes from (Table 6-1). -/
inductive Origin where
  | tenant (i : TenantId)
  | port (p : Port)
  deriving DecidableEq, Repr

/-- State of a queue entry: PENDING, or ISSUED with its sweeps since issue and its issue point (R101). -/
inductive EntryState where
  | pending
  | issued (since point : Nat)
  deriving DecidableEq, Repr

/-- The stale mark (R89); a mark set by vacating the tenant is kept apart, since its timeout sets no FAULT_SEEN (R15).
DEDUCED (log entry 26). -/
inductive StaleMark where
  | clear | delisted | vacated
  deriving DecidableEq, Repr

/-- An actuation queue entry (Table 6-1). -/
structure Entry where
  outlet : OutletId
  action : Action
  origin : Origin
  state : EntryState
  stale : StaleMark
  /-- It has been offered in the present gap (R100). -/
  offered : Bool
  deriving DecidableEq, Repr

/-! ### Accruals (chapters 1, 3, 4, 5) -/

/-- The live part of a tenant record (Table 1-3). The shed stack is held newest first. -/
structure Live where
  drawA : Nat
  drawB : Nat
  demand : Nat
  zone : Zone
  credit : Nat
  curtailment : Curtailment
  stack : List OutletId
  inFlight : Option (OutletId × Action)
  sinceStep : Nat
  deriving DecidableEq, Repr

/-- The live part of a VACANT tenant (Table 1-3). -/
def Live.vacant : Live :=
  { drawA := 0, drawB := 0, demand := 0, zone := .within, credit := 0, curtailment := .clear, stack := [],
    inFlight := none, sinceStep := 0 }

/-- The energy accumulators of an accrual (Table 3-1), in watt-seconds. -/
structure EnergyAcc where
  energyA : Int
  energyB : Int
  estimated : Int
  correction : Int
  void : Bool
  saturated : Bool
  deriving DecidableEq, Repr

/-- Energy accumulators at zero with both flags clear (R53). -/
def EnergyAcc.zero : EnergyAcc :=
  { energyA := 0, energyB := 0, estimated := 0, correction := 0, void := false, saturated := false }

/-- The interval accumulators of a tenant (R53, R68, R69, R78). -/
structure Accumulators where
  energy : EnergyAcc
  secWithin : Nat
  secBurst : Nat
  secExhausted : Nat
  secOver : Nat
  peak : Nat
  shedSteps : Nat
  restoreSteps : Nat
  deferredSteps : Nat
  listSpentSeen : Bool
  faultSeen : Bool
  deriving DecidableEq, Repr

/-- Interval accumulators at zero with every flag clear (R124). -/
def Accumulators.zero : Accumulators :=
  { energy := .zero, secWithin := 0, secBurst := 0, secExhausted := 0, secOver := 0, peak := 0, shedSteps := 0,
    restoreSteps := 0, deferredSteps := 0, listSpentSeen := false, faultSeen := false }

/-! ### Interval closer and ring (chapters 7 and 8) -/

/-- The step of a close in flight that comes next: steps 3 to 6 of R117. -/
inductive CloseStep where
  | build | apply | resetAccumulators | complete
  deriving DecidableEq, Repr

/-- A close in flight (R117). -/
structure CloseInFlight where
  step : CloseStep
  /-- Started by END_INTERVAL or by a seal with CLOSE_NOW (R121). -/
  early : Bool
  closeSecond : Word
  /-- The taken set (Table 7-1). -/
  taken : Option Configuration
  deriving DecidableEq, Repr

/-- Close state IDLE, or CLOSING with the close in flight (Table 7-1). -/
inductive CloseState where
  | idle
  | closing (c : CloseInFlight)
  deriving DecidableEq, Repr

/-- The interval closer (Table 7-1). -/
structure Closer where
  sequence : Word
  startSecond : Word
  counted : Nat
  target : Nat
  extensions : Nat
  noteEstimates : Bool
  noteOverrun : Bool
  noteHold : Bool
  heldHold : Bool
  generation : BitVec 16
  close : CloseState
  deriving DecidableEq, Repr

/-- A record's place in the ring: its sequence number, first slot and length in slots (R126). -/
structure Rec where
  sequence : Word
  start : Nat
  length : Nat
  deriving DecidableEq, Repr

/-- The record ring (R126, R127). `slots` lists the occupied slots as (number, bytes) with rising numbers; a slot
it does not list is free.
DESIGN CHOICE (log entry 11): a free slot has no content. -/
structure Ring where
  slots : List (Nat × List Byte)
  /-- The available records, oldest first. -/
  records : List Rec
  /-- The record written at step 3 and not yet available. -/
  building : Option Rec
  writePos : Nat
  deriving DecidableEq, Repr

/-! ### Amendment unit (chapter 9) -/

/-- The claim with what exists in each of its states: claimant, idle timer and shadow while OPEN, the sealed set
while SEALED (Table 9-1). -/
inductive Claim where
  | idle
  | opened (claimant : Port) (timer : Nat) (shadow : Configuration)
  | sealed (set : Configuration)
  deriving DecidableEq, Repr

/-- The seal report: failing check 0 to 6 and item 0 to 383 (Table 9-1). -/
structure SealReport where
  check : Nat
  item : Nat
  deriving DecidableEq, Repr

/-! ### Management ports (chapters 8 and 10) -/

/-- The subscription with what exists under each mode: cursor and delivered mark when subscribed, the
acknowledgement point under RETAIN only (Table 8-1). -/
inductive Delivery where
  | unsubscribed
  | follow (cursor mark : Word)
  | retain (cursor ack mark : Word)
  deriving DecidableEq, Repr

/-- A read formed at its snapshot point: which request it answers, the result of its checks and its response (R159). -/
structure Latch where
  code : Byte
  args : List Byte
  result : Result
  reply : List Byte
  deriving DecidableEq, Repr

/-- The progress of a READ_RECORDS frame (R134 to R136). -/
structure Stream where
  /-- An end slot has begun. -/
  ended : Bool
  /-- The record whose slot is being clocked out and the slot's index in it; none before the first slot. -/
  current : Option (Rec × Nat)
  /-- The latest record whose final slot was clocked out in full. -/
  lastWhole : Option Word
  deriving DecidableEq, Repr

/-- Frame progress of a port (00_scope.md section 3). -/
structure Frame where
  latch : Option Latch
  stream : Option Stream
  deriving DecidableEq, Repr

/-- The state of a management port. -/
structure PortState where
  role : Role
  result : Result
  notices : BitVec 14
  mask : BitVec 14
  delivery : Delivery
  skipped : Nat
  /-- Present while select is low. -/
  frame : Option Frame
  /-- The status byte sampled at the latest fall of select (R161). -/
  status : Byte
  /-- What the present or latest frame clocks out after its fixed bytes, before the 0xFF that follows: a response, or the
  slot of READ_RECORDS. -/
  reply : List Byte
  deriving DecidableEq, Repr

/-- The input pins whose levels the part acts on (00_scope.md section 4). -/
structure Pins where
  actuationHold : Bool
  /-- The level of CONFIG_LOCK when it was last sampled (R151). -/
  configLock : Bool
  /-- RESET is asserted. -/
  resetLine : Bool
  deriving DecidableEq, Repr

/-! ### The whole part -/

/-- The state of the part, and `pending`, the queue of the commands that are waiting, first in first out. -/
structure State where
  pins : Pins
  run : RunState
  seconds : Word
  nextDue : Option Word
  late : Bool
  sweep : Option Sweep
  link : Link
  modules : Table ModuleLive 16
  outlets : Table Outlet 384
  committed : Committed
  attribution : Table (Option TenantId) 384
  live : Table Live 64
  accruals : Table Accumulators 64
  house : EnergyAcc
  queue : List Entry
  closer : Closer
  ring : Ring
  claim : Claim
  report : SealReport
  ports : Table PortState 4
  pending : List Instr
  deriving DecidableEq, Repr

/-- Why the part stops: it never does. Every command of the part has an effect in every state, so no meaning
raises a fault and the type has no constructor. -/
inductive Fault where
  deriving DecidableEq, Repr

/-- Why a command is refused by the model. -/
inductive Refusal where
  /-- The command has no meaning in the model yet. Raised by an arm of `exec` only; safe. No arm raises it. -/
  | notModelled (mnemonic : String)
  deriving DecidableEq, Repr

/-! ### Reset values -/

/-- Module record after reset (Table 2-1). -/
def ModuleLive.reset : ModuleLive := { state := .unused, misses := 0, feedPresent := false, moduleFault := false }

/-- Timing defaults (Table 9-2). -/
def Timing.default : Timing := { period := 1, length := 900, timeout := 30 }

/-- The empty pool (R75). -/
def Pool.empty : Pool := { slots := [], extents := .fill 64 { first := 0, length := 0 } }

/-- The empty committed configuration (R141). -/
def Committed.empty : Committed :=
  { contracts := .fill 64 .empty, pool := .empty, windows := .fill 96 none,
    modules := .fill 16 { used := false, feed := .a }, timing := .default }

/-- The interval closer after reset (Table 7-1). -/
def Closer.reset : Closer :=
  { sequence := 0, startSecond := 0, counted := 0, target := 0, extensions := 0, noteEstimates := false,
    noteOverrun := false, noteHold := false, heldHold := false, generation := 0, close := .idle }

/-- The ring after reset: every slot free (R126). -/
def Ring.empty : Ring := { slots := [], records := [], building := none, writePos := 0 }

/-- The link after reset: idle, no exchange on it (R99). -/
def Link.reset : Link := { exchange := none, gap := .idle, sent := [], moment := 0 }

/-- A port after reset (R161, R162, R163, Table 8-1).
DESIGN CHOICE (log entry 8): until its straps are first sampled a port's role is DISABLED.
DESIGN CHOICE (log entry 29): `status` and `reply`, what the latest frame clocked out, are zero and empty. -/
def PortState.reset : PortState :=
  { role := .disabled, result := .ok, notices := 0, mask := 0, delivery := .unsubscribed, skipped := 0, frame := none,
    status := 0, reply := [] }

/-- The pin levels of the reset state.
DESIGN CHOICE (log entry 8): RESET is still asserted, ACTUATION_HOLD and CONFIG_LOCK are not. -/
def Pins.reset : Pins := { actuationHold := false, configLock := false, resetLine := true }

/-- The part right after reset, before RESET is released (R140 and the reset sentences of every chapter). -/
def State.reset : State :=
  { pins := .reset, run := .unconfigured, seconds := 0, nextDue := none, late := false, sweep := none, link := .reset,
    modules := .fill 16 .reset, outlets := .fill 384 .initial, committed := .empty, attribution := .fill 384 none,
    live := .fill 64 .vacant, accruals := .fill 64 .zero, house := .zero, queue := [], closer := .reset,
    ring := .empty, claim := .idle, report := { check := 0, item := 0 }, ports := .fill 4 .reset, pending := [] }

end Sys2Proof.Machine
end

