-- ==== Sys2Proof/Machine/Flags.lean ====
section
/-!
DEFINITION. Codes, flag sets and notice sets: the encodings of Tables 10-3, 10-4 and 11-4, the bits of a notice
field, the ALERT output and the status byte of Table 11-2.
-/

namespace Sys2Proof.Machine

/-- Number of a result code (Table 10-3). -/
def Result.code : Result → Byte
  | .ok => 0 | .frame => 1 | .unknown => 2 | .role => 3 | .range => 4 | .busy => 5 | .claimed => 6 | .notClaimant => 7
  | .noneOpen => 8 | .pending => 9 | .locked => 10 | .invalid => 11 | .ringFull => 12 | .outletBusy => 13
  | .curtailed => 14 | .notSubscribed => 15

/-- Number of a notice (Table 10-4). -/
def Notice.number : Notice → Nat
  | .intervalClosed => 0 | .ringFullExtended => 1 | .tenantLimit => 2 | .moduleLost => 3 | .moduleBack => 4
  | .actuationFault => 5 | .correctionVoid => 6 | .sweepOverrun => 7 | .amendmentApplied => 8 | .claimChanged => 9
  | .claimLost => 10 | .recordsSkipped => 11 | .frameDiscarded => 12 | .ringLow => 13

/-- The notice set that holds one notice: notice number n is bit n (R168). -/
def Notice.bit (n : Notice) : BitVec 14 := BitVec.ofNat 14 (2 ^ n.number)

/-- The notices a two-byte notice field names; bits 14 and 15 name none (R168). -/
def noticeField (field : BitVec 16) : BitVec 14 := field.setWidth 14

/-- The level of a port's ALERT output: its notice set and its alert mask share a notice (R163). -/
def PortState.alert (q : PortState) : Bool := q.notices &&& q.mask ≠ 0

/-- Role encoding (Table 11-4). -/
def Role.code : Role → Byte
  | .disabled => 0 | .viewer => 1 | .collector => 2 | .facility => 3

/-- The role of a strap pair, PnROLE1 then PnROLE0 (Table 10-1). -/
def Role.ofStraps : Bool → Bool → Role
  | false, false => .disabled | false, true => .viewer | true, false => .collector | true, true => .facility

/-- Run state encoding (Table 11-4). -/
def RunState.code : RunState → Byte
  | .unconfigured => 0 | .running => 1

/-- Feed encoding (Table 11-4). -/
def Feed.code : Feed → Byte
  | .a => 0 | .b => 1

/-- Module state encoding (Table 11-4). -/
def ModuleState.code : ModuleState → Byte
  | .unused => 0 | .awaiting => 1 | .present => 2 | .missed => 3 | .lost => 4

/-- Relay encoding (Table 11-4). -/
def Relay.code : Relay → Byte
  | .closed => 0 | .opened => 1 | .unknown => 2

/-- Cause encoding (Table 11-4). -/
def Cause.code : Cause → Byte
  | .none => 0 | .shed => 1 | .admin => 2 | .foreign => 3

/-- Action encoding (Table 11-4). -/
def Action.code : Action → Byte
  | .opening => 0 | .closing => 1

/-- Policy encoding (Table 11-4). -/
def Policy.code : Policy → Byte
  | .report => 0 | .shedManual => 1 | .shedAuto => 2

/-- Class encoding (Table 11-4). -/
def TenantClass.code : TenantClass → Byte
  | .singleA => 0 | .singleB => 1 | .paired => 2

/-- Zone encoding (Table 11-4). -/
def Zone.code : Zone → Byte
  | .within => 0 | .burst => 1 | .exhausted => 2 | .over => 3

/-- Curtailment state encoding (Table 11-4). -/
def Curtailment.code : Curtailment → Byte
  | .clear => 0 | .curtailed => 1 | .listSpent => 2 | .restoring => 3

/-- Origin encoding: tenant 0 to 63, port Pn as 0x80 + n (Table 11-4). -/
def Origin.code : Origin → Byte
  | .tenant i => BitVec.ofNat 8 i.val
  | .port p => BitVec.ofNat 8 (0x80 + p.val)

/-- Entry state encoding (Table 11-4). -/
def EntryState.code : EntryState → Byte
  | .pending => 0 | .issued _ _ => 1

/-- Sweeps since issue as shown: 0 while PENDING (Table 6-1). -/
def EntryState.since : EntryState → Nat
  | .pending => 0 | .issued n _ => n

/-- The stale mark as one flag (Table 6-1). -/
def StaleMark.isSet : StaleMark → Bool
  | .clear => false | .delisted => true | .vacated => true

/-- Subscription mode encoding (Table 11-4). -/
def Delivery.code : Delivery → Byte
  | .unsubscribed => 0 | .follow _ _ => 1 | .retain _ _ _ => 2

/-- A flag as a byte. -/
def flagByte (b : Bool) : Byte := if b then 1 else 0

/-- A set of up to eight flags as a byte, the first flag in bit 0. -/
def flagSet (flags : List Bool) : Byte :=
  BitVec.ofNat 8 (flags.foldr (fun b n => 2 * n + b.toNat) 0)

/-- The level of a flag of the closer's state that the status byte shows as CLOSING (R117). -/
def State.closing (s : State) : Bool :=
  match s.closer.close with
  | .idle => false
  | .closing _ => true

/-- CLAIM_HELD: the claim is OPEN and port `p` is the claimant (R142). -/
def State.claimHeld (s : State) (p : Port) : Bool :=
  match s.claim with
  | .opened q _ _ => q == p
  | _ => false

/-- The status byte of port `p` (Table 11-2): bits 7 to 4 last result, 3 CLOSING, 2 CLAIM_HELD, 1 ALERT, 0 RUNNING. -/
def State.statusByte (s : State) (p : Port) : Byte :=
  (((s.ports.get p).result.code <<< 4)
    ||| flagSet [s.run == .running, (s.ports.get p).alert, s.claimHeld p, s.closing])

/-- Flags of a record header (Table 11-5): bit 0 EXTENDED, 1 EARLY, 2 AMENDED, 3 HOLD_SEEN, 4 OVERRUN_SEEN, 5 ESTIMATES. -/
def headerFlags (extended early amended hold overrun estimates : Bool) : Byte :=
  flagSet [extended, early, amended, hold, overrun, estimates]

/-- Flags of a line (Table 11-6): bit 0 LIST_SPENT_SEEN, 1 VOID, 2 FAULT_SEEN, 3 SATURATED. -/
def lineFlags (listSpent void fault saturated : Bool) : Byte :=
  flagSet [listSpent, void, fault, saturated]

end Sys2Proof.Machine
end

