-- ==== Sys2Proof/Machine/Operands.lean ====
section
/-!
DEFINITION. The operand forms of the management requests: what each argument byte names, and the ranges of Table 1-1,
Table 9-2 and R168. A decoder answers `none` exactly where the request is refused with RANGE.
-/

namespace Sys2Proof.Machine

/-- A number as an index below `n`, none when out of range. -/
def indexOf? (n k : Nat) : Option (Fin n) := if h : k < n then some ⟨k, h⟩ else none

/-- A tenant index byte, 0 to 63. -/
def tenantOf? (b : Byte) : Option TenantId := indexOf? 64 b.toNat

/-- An outlet number, 0 to 383. -/
def outletOf? (w : BitVec 16) : Option OutletId := indexOf? 384 w.toNat

/-- A module index byte, 0 to 15. -/
def moduleOf? (b : Byte) : Option ModuleId := indexOf? 16 b.toNat

/-- A window slot byte, 0 to 95. -/
def slotOf? (b : Byte) : Option WindowSlot := indexOf? 96 b.toNat

/-- Tenant state: VACANT 0, ACTIVE 1 (Table 11-4); the value says ACTIVE. -/
def tenantStateOf? (b : Byte) : Option Bool :=
  if b = 0 then some false else if b = 1 then some true else none

/-- Policy: REPORT 0, SHED_MANUAL 1, SHED_AUTO 2 (Table 11-4). -/
def policyOf? (b : Byte) : Option Policy :=
  if b = 0 then some .report else if b = 1 then some .shedManual else if b = 2 then some .shedAuto else none

/-- Class: SINGLE_A 0, SINGLE_B 1, PAIRED 2 (Table 11-4). -/
def classOf? (b : Byte) : Option TenantClass :=
  if b = 0 then some .singleA else if b = 1 then some .singleB else if b = 2 then some .paired else none

/-- Used: no 0, yes 1 (Table 11-4). -/
def usedOf? (b : Byte) : Option Bool :=
  if b = 0 then some false else if b = 1 then some true else none

/-- Feed: A 0, B 1 (Table 11-4). -/
def feedOf? (b : Byte) : Option Feed :=
  if b = 0 then some .a else if b = 1 then some .b else none

/-- Action: OPEN 0, CLOSE 1 (Table 11-4). -/
def actionOf? (b : Byte) : Option Action :=
  if b = 0 then some .opening else if b = 1 then some .closing else none

/-- View: COMMITTED 0, STAGED 1 (Table 11-4); the value says STAGED. -/
def viewOf? (b : Byte) : Option Bool :=
  if b = 0 then some false else if b = 1 then some true else none

/-- Timing choice: AT_CLOSE 0, CLOSE_NOW 1 (Table 11-4); the value says CLOSE_NOW. -/
def timingChoiceOf? (b : Byte) : Option Bool :=
  if b = 0 then some false else if b = 1 then some true else none

/-- The modes a SUBSCRIBE may name. -/
inductive Mode where
  | unsubscribed | follow | retain
  deriving DecidableEq, Repr

/-- Subscription mode: NONE 0, FOLLOW 1, RETAIN 2 (Table 11-4). -/
def modeOf? (b : Byte) : Option Mode :=
  if b = 0 then some .unsubscribed else if b = 1 then some .follow else if b = 2 then some .retain else none

/-- The mode of a port's present subscription. -/
def Delivery.mode : Delivery → Mode
  | .unsubscribed => .unsubscribed
  | .follow _ _ => .follow
  | .retain _ _ _ => .retain

/-- `k` when it lies from `lo` to `hi`, both included. -/
def inRange? (lo hi k : Nat) : Option Nat := if lo ≤ k ∧ k ≤ hi then some k else none

/-- The contract fields of a STAGE_TENANT, none when any lies outside Table 1-1 (R2). -/
def contractOf? (state : Byte) (committed ceiling qmax restore : Word) (shift dwell policy cls : Byte) :
    Option Contract := do
  let a ← tenantStateOf? state
  let c ← inRange? 1 4000000 committed.toNat
  let k ← inRange? 1 4000000 ceiling.toNat
  let q ← inRange? 0 4000000000 qmax.toNat
  let r ← inRange? 0 4000000000 restore.toNat
  let h ← inRange? 0 6 shift.toNat
  let d ← inRange? 1 255 dwell.toNat
  let p ← policyOf? policy
  let x ← classOf? cls
  return { active := a, committed := c, ceiling := k, qmax := q, restore := r, shift := h, dwell := d, policy := p, cls := x }

/-- What a STAGE_WINDOW writes into its slot: the window of a SET, nothing of a CLEAR; none when the operation or a
field of a SET is out of range (R40, R168). The window's fields are not checked by a CLEAR (R168). -/
def windowOf? (operation : Byte) (first last : BitVec 16) (tenant : Byte) : Option (Option Window) :=
  if operation = 0 then some none
  else if operation = 1 then do
    let f ← outletOf? first
    let l ← outletOf? last
    let t ← tenantOf? tenant
    if f ≤ l then return some { first := f, last := l, tenant := t } else none
  else none

/-- The outlets of a STAGE_SHED_LIST in order, none when any number is above 383 (R73). -/
def outletsOf? : List (BitVec 16) → Option (List OutletId)
  | [] => some []
  | w :: ws => do
    let o ← outletOf? w
    let os ← outletsOf? ws
    return o :: os

/-- The timing of a STAGE_TIMING, none when any field lies outside Table 9-2 (R146). -/
def timingOf? (period : Byte) (length : BitVec 16) (timeout : Byte) : Option Timing := do
  let t ← inRange? 1 10 period.toNat
  let l ← inRange? 60 3600 length.toNat
  let c ← inRange? 5 255 timeout.toNat
  return { period := t, length := l, timeout := c }

end Sys2Proof.Machine
end

