-- ==== Sys2Proof/Machine/Ops.lean ====
section
/-!
DEFINITION. The named operations that the meanings share: comparison of wrapping numbers, the bytes of a number,
reading and updating the tables, raising notices, the frame of a management request, the actuation queue and the
record ring.
-/

namespace Sys2Proof.Machine

/-! ### Numbers -/

/-- `a` is later than `b`, compared on the difference modulo 2^32 (R17, R111).
DEDUCED (log entry 10): a difference from 1 to 2^31 - 1 is later; the one of exactly 2^31 is a free value. -/
def later (a b : Word) : Bool :=
  let d := (a - b).toNat
  if d = 2 ^ 31 then Config.laterAtHalf a b else decide (0 < d ∧ d < 2 ^ 31)

/-- `n` bytes of `v`, most significant byte first (R168). -/
def beBytes (n v : Nat) : List Byte :=
  (List.range n).map fun i => BitVec.ofNat 8 (v / 256 ^ (n - 1 - i))

/-- A signed number in two's complement at `n` bytes, most significant byte first (R168). -/
def beSigned (n : Nat) (v : Int) : List Byte := beBytes n (BitVec.ofInt (8 * n) v).toNat

/-- The number that bytes carry, most significant byte first (R168). -/
def ofBytes (bs : List Byte) : Nat := bs.foldl (fun n b => 256 * n + b.toNat) 0

/-- Saturating rise: `k + n` held at `top`. -/
def satRise (top k n : Nat) : Nat := min top (k + n)

/-! ### Outlets, modules and channels (R21, R44) -/

/-- The module of an outlet: floor(n / 24). -/
def moduleOfOutlet (o : OutletId) : ModuleId := ⟨o.val / 24, by have := o.isLt; omega⟩

/-- The channel of an outlet within its module. -/
def channelOfOutlet (o : OutletId) : Channel := ⟨o.val % 24, Nat.mod_lt _ (by decide)⟩

/-- Outlet `module × 24 + channel`. -/
def outletOn (m : ModuleId) (c : Channel) : OutletId :=
  ⟨m.val * 24 + c.val, by have := m.isLt; have := c.isLt; omega⟩

/-- A port's record with notice `n` in its set (R162). -/
def PortState.withNotice (n : Notice) (q : PortState) : PortState := { q with notices := q.notices ||| n.bit }

namespace State

/-! ### Reading the tables -/

/-- The contract of tenant `i` in the committed configuration. -/
def contract (s : State) (i : TenantId) : Contract := s.committed.contracts.get i

/-- Module `m` is used in the committed configuration. -/
def used (s : State) (m : ModuleId) : Bool := (s.committed.modules.get m).used

/-- The feed of module `m` in the committed configuration. -/
def feed (s : State) (m : ModuleId) : Feed := (s.committed.modules.get m).feed

/-- The role port `p` acts in: the one its straps gave it (R156).
DESIGN CHOICE (log entry 32): while RESET is asserted it acts as a DISABLED port, whatever role it keeps. -/
def role (s : State) (p : Port) : Role := if s.pins.resetLine then .disabled else (s.ports.get p).role

/-- The sweep period in force. -/
def period (s : State) : Nat := s.committed.timing.period

/-- How many sweeps an interval holds under the timing in force: L/t (R114). -/
def sweepsPerInterval (s : State) : Nat := s.committed.timing.length / s.committed.timing.period

/-- How many tenants are ACTIVE in the committed configuration. -/
def activeCount (s : State) : Nat := s.committed.contracts.list.countP (·.active)

/-! ### Updating the tables -/

/-- Port `p` changed by `f`. -/
def updPort (s : State) (p : Port) (f : PortState → PortState) : State := { s with ports := s.ports.modify p f }

/-- The live part of tenant `i` changed by `f`. -/
def updLive (s : State) (i : TenantId) (f : Live → Live) : State := { s with live := s.live.modify i f }

/-- The interval accumulators of tenant `i` changed by `f`. -/
def updAccrual (s : State) (i : TenantId) (f : Accumulators → Accumulators) : State :=
  { s with accruals := s.accruals.modify i f }

/-- Outlet record `o` changed by `f`. -/
def updOutlet (s : State) (o : OutletId) (f : Outlet → Outlet) : State := { s with outlets := s.outlets.modify o f }

/-- Module record `m` changed by `f`. -/
def updModule (s : State) (m : ModuleId) (f : ModuleLive → ModuleLive) : State :=
  { s with modules := s.modules.modify m f }

/-- The cause of outlet `o` becomes `c`. -/
def setCause (s : State) (o : OutletId) (c : Cause) : State := s.updOutlet o fun x => { x with cause := c }

/-- The interval closer changed by `f`. -/
def updCloser (s : State) (f : Closer → Closer) : State := { s with closer := f s.closer }

/-! ### Notices (R162) -/

/-- Notice `n` raised in every port that `who` names; a DISABLED port holds none (R157). -/
def raiseIn (s : State) (n : Notice) (who : Port → Bool) : State :=
  { s with ports := s.ports.imap fun p q => if who p && !(s.role p == .disabled) then q.withNotice n else q }

/-- Notice `n` raised in every port (Table 10-4). -/
def raise (s : State) (n : Notice) : State := s.raiseIn n fun _ => true

/-- CLAIM_CHANGED raised in every facility port that `except` does not name (R142). -/
def claimChanged (s : State) (except : Port → Bool) : State :=
  s.raiseIn .claimChanged fun q => s.role q == .facility && !except q

end State
end Sys2Proof.Machine
end

