-- ==== Sys2Proof/Machine/Frames.lean ====
section
/-!
DEFINITION. The frame of a management request: its beginning, the snapshot of a read, its end with a result, and the
role gate (R157 to R161).
-/

namespace Sys2Proof.Machine

/-- An OK answer to the claimant's port restarts the claim's idle timer (R144). -/
def Claim.restart (p : Port) : Claim → Claim
  | .opened q n c => .opened q (if q = p then 0 else n) c
  | k => k

/-- Byte `k` that a port clocks out in a frame whose request has `n` argument bytes (Table 11-1): the status byte, 0xFF
while the arguments come in, then the response and 0xFF after its last byte, or in place of one that a refused read or
a request without a response does not have (R159). Of a READ_RECORDS frame, which has no arguments, `k` counts on from 1
at the first byte of the slot in progress. -/
def PortState.outByte (q : PortState) (n : Nat) : Nat → Byte
  | 0 => q.status
  | k + 1 => if k < n then 0xFF else q.reply.getD (k - n) 0xFF

namespace State

/-- What port `p` drives on its data-out line at byte `k` of its present or latest frame; a DISABLED port drives nothing
(R157). -/
def dataOut (s : State) (p : Port) (n k : Nat) : Option Byte :=
  if s.role p = .disabled then none else some ((s.ports.get p).outByte n k)

/-- Select falls on port `p`: the frame begins and the status byte is sampled (R161). -/
def beginFrame (s : State) (p : Port) : State :=
  s.updPort p fun q =>
    { q with frame := some { latch := none, stream := none }, status := s.statusByte p, reply := [] }

/-- The frame of port `p`, begun now where none is in progress; select cannot fall during a frame (log entry 1). -/
def ensureFrame (s : State) (p : Port) : State :=
  match (s.ports.get p).frame with
  | some _ => s
  | none => s.beginFrame p

/-- The frame of port `p` ends with a result (R160, R161); an OK answer restarts the idle timer (R144). -/
def endFrame (s : State) (p : Port) (r : Result) : State :=
  { s with
    ports := s.ports.modify p fun q => { q with result := r, frame := none }
    claim := if r = .ok then s.claim.restart p else s.claim }

/-- The snapshot that port `p`'s frame holds. -/
def latch? (s : State) (p : Port) : Option Latch := (s.ports.get p).frame.bind (·.latch)

/-- A read's snapshot: the checks and the response formed from the state as it stands, and kept until the frame ends
(R159). A refused read has no response: its `reply` is empty, and 0xFF is clocked out (`PortState.outByte`). -/
def takeSnapshot (s : State) (p : Port) (code : Byte) (args : List Byte) (form : State → Result × List Byte) : State :=
  let (r, bytes) := form s
  let reply := if r = .ok then bytes else []
  s.updPort p fun q =>
    { q with
      frame := q.frame.map fun f => { f with latch := some { code := code, args := args, result := r, reply := reply } }
      reply := reply }

/-- The result that port `p`'s frame holds of a snapshot of this very request. -/
def latched (s : State) (p : Port) (code : Byte) (args : List Byte) : Option Result :=
  (s.latch? p).bind fun l => if l.code = code ∧ l.args = args then some l.result else none

/-- The snapshot point of a read (R159). A frame that holds a snapshot keeps it: the response is clocked out unchanged
whatever happens meanwhile. -/
def snapshotPoint (s : State) (p : Port) (code : Byte) (args : List Byte) (form : State → Result × List Byte) : State :=
  if (s.latch? p).isSome then s else s.takeSnapshot p code args form

/-- A read request at moment `m` of its frame (R159). `form` gives the result of its checks and its response. A
DISABLED port ignores it (R157). -/
def readRequest (s : State) (p : Port) (m : ReadMoment) (code : Byte) (args : List Byte)
    (form : State → Result × List Byte) : State :=
  if s.role p = .disabled then s
  else
    let s := s.ensureFrame p
    match m with
    | .selectFalls => s
    | .snapshot => s.snapshotPoint p code args form
    | .selectRises =>
      match s.latched p code args with
      | some r => s.endFrame p r
      | none => (s.takeSnapshot p code args form).endFrame p (form s).1

/-- A request without a response at edge `e` of its frame: it is taken when select rises (R159). `take` gives the
state it leaves and its result. A DISABLED port ignores it (R157). -/
def writeRequest (s : State) (p : Port) (e : FrameEdge) (take : State → State × Result) : State :=
  if s.role p = .disabled then s
  else
    let s := s.ensureFrame p
    match e with
    | .selectFalls => s
    | .selectRises => (take s).1.endFrame p (take s).2

/-- A frame of port `p` that is discarded (R160): its last result becomes FRAME and FRAME_DISCARDED is raised in that
port alone. Nothing else of it counts. -/
def discardFrame (s : State) (p : Port) (e : FrameEdge) : State :=
  if s.role p = .disabled then s
  else
    let s := s.ensureFrame p
    match e with
    | .selectFalls => s
    | .selectRises => (s.raiseIn .frameDiscarded (· == p)).endFrame p .frame

/-- The role gate of a request that only FACILITY ports may make (Table 10-2): any other port is refused ROLE. -/
def facilityOnly (p : Port) (take : State → State × Result) (s : State) : State × Result :=
  if s.role p = .facility then take s else (s, .role)

/-- The role gate of a request that FACILITY and COLLECTOR ports may make (Table 10-2). -/
def notViewer (p : Port) (take : State → State × Result) (s : State) : State × Result :=
  if s.role p = .viewer then (s, .role) else take s

end State
end Sys2Proof.Machine
end

