-- ==== Sys2Proof/Machine/Queue.lean ====
section
/-!
DEFINITION. The actuation queue: looking up, placing and removing entries (R96 to R98), the shed stack operations
that other events ask of the curtailment unit (R76, R95), and the confirmation and timeout of an entry (R86 to R89,
R93, R103, R104).
-/

namespace Sys2Proof.Machine

/-- The relay position that carries out an action. -/
def Action.position : Action → Relay
  | .opening => .opened
  | .closing => .closed

/-- The entry is of tenant `i`'s origin. -/
def Entry.ofTenant (e : Entry) (i : TenantId) : Bool := e.origin == .tenant i

/-- The entry is PENDING. -/
def Entry.isPending (e : Entry) : Bool :=
  match e.state with
  | .pending => true
  | .issued _ _ => false

/-- A relay exchange whose entry left the queue while it was on the link (R102). -/
def Exchange.orphaned (gone : OutletId → Bool) : Exchange → Exchange
  | .relay o a live => .relay o a (live && !gone o)
  | x => x

namespace State

/-- The queue entry of outlet `o`: the outlet record's entry reference (Table 2-3, R96). -/
def entryOf (s : State) (o : OutletId) : Option Entry := s.queue.find? fun e => e.outlet == o

/-- The queue holds its full 32 entries (R96). -/
def queueFull (s : State) : Bool := decide (32 ≤ s.queue.length)

/-- The queue may take an entry: fewer than 32, none for the outlet, and none of a tenant origin (R96).
DEDUCED (log entry 25): each placer establishes the last two first (R97). -/
def admits (s : State) (o : OutletId) (origin : Origin) : Bool :=
  !s.queueFull && !(s.queue.any fun e => e.outlet == o)
    && match origin with
       | .tenant i => !(s.queue.any fun e => e.ofTenant i)
       | .port _ => true

/-- An entry joins the tail, PENDING (R97); a tenant's step in flight is set to it (R80). -/
def placeEntry (s : State) (o : OutletId) (a : Action) (origin : Origin) : State :=
  if s.admits o origin then
    let s := { s with queue := s.queue ++
      [{ outlet := o, action := a, origin := origin, state := .pending, stale := .clear, offered := false }] }
    match origin with
    | .tenant i => s.updLive i fun l => { l with inFlight := some (o, a) }
    | .port _ => s
  else s

/-- Every entry that `gone` names leaves the queue (R98): the others keep their order, each origin tenant's step in
flight is cleared, and an exchange on the link for such an entry is made for none from then on (R102). -/
def removeEntries (s : State) (gone : Entry → Bool) : State :=
  { s with
    queue := s.queue.filter fun e => !gone e
    live := s.live.imap fun i l =>
      if s.queue.any fun e => gone e && e.ofTenant i then { l with inFlight := none } else l
    link := { s.link with
      exchange := s.link.exchange.map (Exchange.orphaned fun o => s.queue.any fun e => gone e && e.outlet == o) } }

/-- The entry of outlet `o` leaves the queue (R98). -/
def removeEntry (s : State) (o : OutletId) : State := s.removeEntries fun e => e.outlet == o

/-- The entry of outlet `o` changed by `f`. -/
def updEntry (s : State) (o : OutletId) (f : Entry → Entry) : State :=
  { s with queue := s.queue.map fun e => if e.outlet = o then f e else e }

end State

/-! ### Shed stacks -/

/-- The curtailment state after an outlet left the stack other than by a confirmed restore (R95). -/
def Live.adjust (l : Live) : Live :=
  if l.stack = [] ∧ (l.curtailment = .curtailed ∨ l.curtailment = .restoring) then { l with curtailment := .clear } else l

/-- The outlets that `gone` names leave the stack, the remaining order kept, and the state is adjusted (R95). -/
def Live.unstack (gone : OutletId → Bool) (l : Live) : Live :=
  if l.stack.any gone then Live.adjust { l with stack := l.stack.filter fun o => !gone o } else l

namespace State

/-- Outlet `o` leaves the shed stack that holds it (R34, R95). -/
def leaveStack (s : State) (o : OutletId) : State :=
  { s with live := s.live.imap fun _ l => l.unstack (· == o) }

/-! ### Confirmation and timeout -/

/-- A confirmed OPEN of tenant `i`'s own step (R86). -/
def shedConfirmed (s : State) (i : TenantId) (o : OutletId) : State :=
  ((s.setCause o .shed).updLive i fun l =>
    { l with
      stack := o :: l.stack, inFlight := none, sinceStep := 0
      curtailment := if l.curtailment = .restoring then .restoring else .curtailed }).updAccrual i fun a =>
    { a with shedSteps := satRise 65535 a.shedSteps 1 }

/-- A confirmed CLOSE of tenant `i`'s own step (R87).
DEDUCED (log entry 34): the outlet popped is the entry's, which the rule says is the top one. -/
def restoreConfirmed (s : State) (i : TenantId) (o : OutletId) : State :=
  ((s.setCause o .none).updLive i fun l =>
    Live.adjust { l with stack := l.stack.filter (· ≠ o), inFlight := none, sinceStep := 0 }).updAccrual i fun a =>
    { a with restoreSteps := satRise 65535 a.restoreSteps 1 }

/-- A good reading confirms entry `e`, which leaves the queue (R103): the effect of R86 or R87 for a tenant origin,
of R89 for a stale entry, of R93 for a port origin. -/
def confirmEntry (s : State) (e : Entry) : State :=
  let s := s.removeEntry e.outlet
  match e.origin with
  | .port _ => s.setCause e.outlet (match e.action with | .opening => .admin | .closing => .none)
  | .tenant i =>
    if e.stale.isSet then s.setCause e.outlet .admin
    else match e.action with
      | .opening => s.shedConfirmed i e.outlet
      | .closing => s.restoreConfirmed i e.outlet

/-- Entry `e` times out (R104): it leaves the queue, the outlet's fault flag is set, ACTUATION_FAULT is raised, and
FAULT_SEEN is set for a tenant origin unless vacating the tenant made the entry stale (R88). -/
def timeoutEntry (s : State) (e : Entry) : State :=
  let s := ((s.removeEntry e.outlet).updOutlet e.outlet fun x => { x with fault := true }).raise .actuationFault
  match e.origin with
  | .port _ => s
  | .tenant i => if e.stale = .vacated then s else s.updAccrual i fun a => { a with faultSeen := true }

/-- The running sweep observes an entry of outlet `o` issued at moment `point`: its last poll of the outlet's module
began after it (R103). -/
def observes (s : State) (o : OutletId) (point : Nat) : Bool :=
  match s.sweep with
  | none => false
  | some w =>
    match w.lastPoll.get (moduleOfOutlet o) with
    | none => false
    | some began => decide (point < began)

/-- The reading of entry `e`'s outlet handed to the queue (R33, R103, R104): `reported` is the position of a good
reading, none for a missing one. -/
def entryReading (s : State) (e : Entry) (reported : Option Relay) : State :=
  match e.state with
  | .pending => s
  | .issued since point =>
    if s.observes e.outlet point then
      if reported = some e.action.position then s.confirmEntry e
      else if 3 ≤ since + 1 then s.timeoutEntry e
      else s.updEntry e.outlet fun x => { x with state := .issued (since + 1) point }
    else s

end State
end Sys2Proof.Machine
end

