-- ==== Sys2Proof/Machine/RingOps.lean ====
section
/-!
DEFINITION. The record ring: its slots as an addressed store (R126), held and releasable records (R128), and the
dropping of records for a close with its effect on delivery cursors (R120, R129, R130).
-/

namespace Sys2Proof.Machine

/-! ### Slots -/

/-- How many slots the ring has (R126). -/
def ringSize : Nat := 2048

/-- The bytes in slot `n` of a slot list; none when the slot is free. -/
def readSlot (slots : List (Nat × List Byte)) (n : Nat) : Option (List Byte) :=
  (slots.find? fun x => x.1 == n).map (·.2)

/-- `bytes` written into slot `n`, the list's numbers kept rising. -/
def writeSlot (n : Nat) (bytes : List Byte) : List (Nat × List Byte) → List (Nat × List Byte)
  | [] => [(n, bytes)]
  | (k, b) :: rest =>
    if n < k then (n, bytes) :: (k, b) :: rest
    else if n = k then (n, bytes) :: rest
    else (k, b) :: writeSlot n bytes rest

/-- `content` written slot by slot from slot `start` on, slot 2047 followed by slot 0 (R126). -/
def writeSlots (start : Nat) : List (List Byte) → List (Nat × List Byte) → List (Nat × List Byte)
  | [], slots => slots
  | b :: rest, slots => writeSlots (start + 1) rest (writeSlot (start % ringSize) b slots)

/-- Slot `n` is one of the record's slots. -/
def Rec.covers (r : Rec) (n : Nat) : Bool := decide ((n + ringSize - r.start % ringSize) % ringSize < r.length)

/-- The canonical form of the slot list: numbers strictly rising, each below 2048. -/
def slotsWf (slots : List (Nat × List Byte)) : Bool :=
  decide ((slots.map (·.1)).Pairwise (· < ·)) && slots.all fun x => decide (x.1 < ringSize)

namespace Ring

/-- How many slots are free (R126). -/
def free (r : Ring) : Nat := ringSize - r.slots.length

/-- The available record with a given sequence number. -/
def find? (r : Ring) (q : Word) : Option Rec := r.records.find? fun x => x.sequence == q

/-- The oldest available record (R127). -/
def oldest? (r : Ring) : Option Rec := r.records.head?

/-- The newest available record (R127). -/
def newest? (r : Ring) : Option Rec := r.records.getLast?

end Ring

/-! ### Delivery state of a port (Table 8-1) -/

/-- The delivery cursor; absent under NONE. -/
def Delivery.cursor? : Delivery → Option Word
  | .unsubscribed => none
  | .follow c _ => some c
  | .retain c _ _ => some c

/-- The acknowledgement point; RETAIN only. -/
def Delivery.ack? : Delivery → Option Word
  | .retain _ a _ => some a
  | _ => none

/-- The delivered mark; absent under NONE. -/
def Delivery.mark? : Delivery → Option Word
  | .unsubscribed => none
  | .follow _ m => some m
  | .retain _ _ m => some m

/-- The delivery state with its cursor at `c`. -/
def Delivery.withCursor (c : Word) : Delivery → Delivery
  | .unsubscribed => .unsubscribed
  | .follow _ m => .follow c m
  | .retain _ a m => .retain c a m

/-- The delivery state with its delivered mark at `m`. -/
def Delivery.withMark (m : Word) : Delivery → Delivery
  | .unsubscribed => .unsubscribed
  | .follow c _ => .follow c m
  | .retain c a _ => .retain c a m

/-! ### Holding and dropping -/

/-- A port holds the record of sequence `q`: subscribed in RETAIN with its acknowledgement point below it (R128). -/
def PortState.holds (x : PortState) (q : Word) : Bool :=
  match x.delivery with
  | .retain _ a _ => later q a
  | _ => false

namespace State

/-- The record of sequence `q` is held by some port (R128). -/
def held (s : State) (q : Word) : Bool := s.ports.list.any fun x => x.holds q

/-- The slots of the releasable records (R128). -/
def releasable (s : State) : Nat :=
  ((s.ring.records.filter fun r => !s.held r.sequence).map (·.length)).sum

/-- The sequence "the oldest record" means for a delivery cursor: the oldest available record's, or where there is
none that of the next record to be written (R133, R130). -/
def oldestSequence (s : State) : Word :=
  match s.ring.oldest? with
  | some r => r.sequence
  | none =>
    match s.run with
    | .running => s.closer.sequence
    | .unconfigured => 1

/-- The space a close needs: 2 plus the number of ACTIVE tenants (R119). -/
def spaceNeed (s : State) : Nat := 2 + s.activeCount

end State

/-- Oldest first, the records dropped until `free` reaches `need`, and those that stay (R120). A held record and
everything after it stays. -/
def dropFor (held : Word → Bool) (need : Nat) : Nat → List Rec → List Rec × List Rec
  | _, [] => ([], [])
  | free, r :: rest =>
    if need ≤ free ∨ held r.sequence = true then ([], r :: rest)
    else
      let (gone, stay) := dropFor held need (free + r.length) rest
      (r :: gone, stay)

/-- How many of the dropped records lie at or after a cursor (R130). -/
def skippedBy (dropped : List Rec) (cursor : Word) : Nat :=
  dropped.countP fun r => !later cursor r.sequence

/-- A drop's effect on a port: a cursor that names a dropped record moves to `oldest`, the skipped count rises, and
RECORDS_SKIPPED is raised in the port (R130). -/
def PortState.afterDrop (dropped : List Rec) (oldest : Word) (x : PortState) : PortState :=
  match x.delivery.cursor? with
  | none => x
  | some c =>
    if dropped.any fun r => r.sequence == c then
      PortState.withNotice .recordsSkipped
        { x with
          delivery := x.delivery.withCursor oldest
          skipped := satRise 65535 x.skipped (skippedBy dropped c) }
    else x

/-- Step 2 of a close: the ring drops releasable records until the close has its room (R120, R129, R130). A DISABLED
port has no cursor to move (R157). -/
def State.dropForClose (s : State) : State :=
  let (gone, stay) := dropFor s.held s.spaceNeed s.ring.free s.ring.records
  let s := { s with
    ring := { s.ring with
      slots := s.ring.slots.filter fun x => !(gone.any fun r => r.covers x.1)
      records := stay } }
  { s with
    ports := s.ports.imap fun p x => if s.role p = .disabled then x else x.afterDrop gone s.oldestSequence }

end Sys2Proof.Machine
end

