-- ==== Sys2Proof/Machine/Layout.lean ====
section
/-!
DEFINITION. Byte layouts: the ring slots of Tables 11-5 and 11-6, the outlet link frames of Tables 11-7 and 11-8 with
their CRC (R172), and the responses of the read requests (R164 to R166, Table 11-3).
-/

namespace Sys2Proof.Machine

/-! ### CRC-16 (R172) -/

/-- One bit of the CRC register's step against x^16 + x^12 + x^5 + 1. -/
def crcBit (r : BitVec 16) : BitVec 16 := if r.msb then (r <<< 1) ^^^ 0x1021 else r <<< 1

/-- One byte taken into the CRC register, most significant bit first. -/
def crcByte (r : BitVec 16) (b : Byte) : BitVec 16 :=
  (List.range 8).foldl (fun r _ => crcBit r) (r ^^^ (b.setWidth 16 <<< 8))

/-- The CRC-16 of a byte list: the register starts at 0xFFFF and is not inverted (R172). -/
def crc16 (bs : List Byte) : BitVec 16 := bs.foldl crcByte 0xFFFF

/-- A frame body with its CRC behind it, high byte first (R172). -/
def withCrc (body : List Byte) : List Byte := body ++ beBytes 2 (crc16 body).toNat

/-- The CRC of a received frame checks (R172): the value recomputed over its bytes before the CRC equals the last two. -/
def crcChecks (bs : List Byte) : Bool :=
  decide (2 ≤ bs.length ∧ (crc16 (bs.take (bs.length - 2))).toNat = ofBytes (bs.drop (bs.length - 2)))

/-! ### Outlet link frames (Table 11-7) -/

/-- A poll frame. -/
def pollFrame (m : ModuleId) : List Byte := withCrc [BitVec.ofNat 8 m.val, 0x01]

/-- A relay command frame. -/
def relayFrame (o : OutletId) (a : Action) : List Byte :=
  withCrc [BitVec.ofNat 8 (moduleOfOutlet o).val, 0x02, BitVec.ofNat 8 (channelOfOutlet o).val, a.code]

/-- Byte `n` of a received frame, 0 past its end. -/
def byteAt (bs : List Byte) (n : Nat) : Byte := bs.getD n 0

/-- An answer is good (R24, R172): of the full length of 173 bytes, from the polled module, of type 0x81, its CRC checking.
The 2 ms limits are outside the model (log entry 30). -/
def answerGood (m : ModuleId) (bs : List Byte) : Bool :=
  decide (bs.length = 173 ∧ (byteAt bs 0).toNat = m.val ∧ byteAt bs 1 = 0x81) && crcChecks bs

/-- An echo is good (R101, R172): of the full length of 6 bytes, with the module address, channel and action of the
command, of type 0x82, its CRC checking. -/
def echoGood (o : OutletId) (a : Action) (bs : List Byte) : Bool :=
  decide (bs.length = 6 ∧ (byteAt bs 0).toNat = (moduleOfOutlet o).val ∧ byteAt bs 1 = 0x82
    ∧ (byteAt bs 2).toNat = (channelOfOutlet o).val ∧ byteAt bs 3 = a.code) && crcChecks bs

/-- The channel block that begins at byte `n` (Table 11-8). A power above 16,383 clears the channel-valid flag (R172).
DEDUCED (log entry 36): power and counter come most significant byte first. -/
def blockAt (bs : List Byte) (n : Nat) : Block :=
  let power := ofBytes [byteAt bs (n + 1), byteAt bs (n + 2)]
  { valid := (byteAt bs n).getLsbD 0 && decide (power ≤ 16383)
    opened := (byteAt bs n).getLsbD 1
    power := power
    counter := BitVec.ofNat 32 (ofBytes [byteAt bs (n + 3), byteAt bs (n + 4), byteAt bs (n + 5), byteAt bs (n + 6)]) }

/-- What a good answer carries (Table 11-7): module status in byte 2, then 24 channel blocks of 7 bytes. -/
def answerOf (bs : List Byte) : Answer :=
  { feedPresent := (byteAt bs 2).getLsbD 0
    moduleFault := (byteAt bs 2).getLsbD 1
    blocks := .tabulate 24 fun c => blockAt bs (3 + 7 * c.val) }

/-! ### Ring slots (R170) -/

/-- An end slot: 64 bytes of 0xFF. -/
def endSlot : List Byte := List.replicate 64 0xFF

/-- A sweeps counted as four bytes carry it; past 2^32 - 1 it is a free value (log entry 21). -/
def countedField (n : Nat) : Nat := if n < 2 ^ 32 then n else (Config.sweepsCountedOverflow n).toNat

/-- The header slot of a close in flight (Table 7-3, Table 11-5). -/
def State.headerSlot (s : State) (c : CloseInFlight) : List Byte :=
  let k := s.closer
  [0x01]
    ++ beBytes 4 k.sequence.toNat
    ++ beBytes 4 k.startSecond.toNat
    ++ beBytes 4 (c.closeSecond - k.startSecond).toNat
    ++ beBytes 4 (countedField k.counted)
    ++ beBytes 2 k.generation.toNat
    ++ beBytes 1 (s.activeCount + 1)
    ++ [headerFlags (decide (0 < k.extensions)) c.early c.taken.isSome k.noteHold k.noteOverrun k.noteEstimates]
    ++ beBytes 1 k.extensions
    ++ List.replicate 42 0

/-- The four energy accumulators as a line carries them (Table 11-6, bytes 2 to 25). -/
def EnergyAcc.bytes (a : EnergyAcc) : List Byte :=
  beSigned 6 a.energyA ++ beSigned 6 a.energyB ++ beSigned 6 a.estimated ++ beSigned 6 a.correction

/-- The line slot of tenant `i` (R122, Table 11-6). -/
def State.tenantLine (s : State) (i : TenantId) : List Byte :=
  let k := s.contract i
  let l := s.live.get i
  let a := s.accruals.get i
  [0x02, BitVec.ofNat 8 i.val]
    ++ a.energy.bytes
    ++ beBytes 3 k.committed ++ beBytes 3 k.ceiling
    ++ beBytes 3 a.peak
    ++ beBytes 4 a.secWithin ++ beBytes 4 a.secBurst ++ beBytes 4 a.secExhausted ++ beBytes 4 a.secOver
    ++ beBytes 4 l.credit
    ++ beBytes 2 a.shedSteps ++ beBytes 2 a.restoreSteps ++ beBytes 2 a.deferredSteps
    ++ [l.zone.code, l.curtailment.code, lineFlags a.listSpentSeen a.energy.void a.faultSeen a.energy.saturated]

/-- The house line slot: index 64 and 0 in bytes 26 to 62 (R122, Table 11-6). -/
def State.houseLine (s : State) : List Byte :=
  [0x02, 64] ++ s.house.bytes ++ List.replicate 37 0 ++ [lineFlags false s.house.void false s.house.saturated]

/-- The slots of the record a close in flight writes: header, one line per ACTIVE tenant in index order, house line
(R121, R122). -/
def State.recordSlots (s : State) (c : CloseInFlight) : List (List Byte) :=
  [s.headerSlot c]
    ++ ((List.finRange 64).filter fun i => (s.contract i).active).map s.tenantLine
    ++ [s.houseLine]

/-! ### Responses (R168, R169) -/

/-- A field that may be absent: a presence byte, then the value's bytes, sent as 0 when absent (R168). -/
def optField (n : Nat) : Option Nat → List Byte
  | none => List.replicate (n + 1) 0
  | some v => 1 :: beBytes n v

/-- A list: a count byte, then its entries of two bytes each (R168). -/
def outletList (os : List OutletId) : List Byte :=
  beBytes 1 os.length ++ os.flatMap fun o => beBytes 2 o.val

namespace State

/-- The part-wide figures of IDENTIFY and READ_PORT: seconds count, sequence, start second, sweeps counted and
configuration generation (R164). -/
def partFigures (s : State) : List Byte :=
  beBytes 4 s.seconds.toNat ++ beBytes 4 s.closer.sequence.toNat ++ beBytes 4 s.closer.startSecond.toNat
    ++ beBytes 4 (countedField s.closer.counted) ++ beBytes 2 s.closer.generation.toNat

/-- The IDENTIFY response (R164, Table 11-3). -/
def identifyReply (s : State) : List Byte :=
  beBytes 2 4820 ++ beBytes 1 1 ++ s.ports.list.map (fun q => q.role.code)
    ++ beBytes 1 16 ++ beBytes 2 384 ++ beBytes 1 64 ++ beBytes 1 96 ++ beBytes 2 512 ++ beBytes 1 32 ++ beBytes 2 2048
    ++ [s.run.code] ++ s.partFigures

/-- The READ_PORT response of port `p` (R164). -/
def portReply (s : State) (p : Port) : List Byte :=
  let q := s.ports.get p
  [q.role.code] ++ beBytes 2 q.notices.toNat ++ beBytes 2 q.mask.toNat
    ++ [q.delivery.code]
    ++ optField 4 (q.delivery.cursor?.map (·.toNat))
    ++ optField 4 (q.delivery.ack?.map (·.toNat))
    ++ optField 4 (q.delivery.mark?.map (·.toNat))
    ++ beBytes 2 q.skipped
    ++ optField 4 (s.ring.oldest?.map (·.sequence.toNat)) ++ optField 4 (s.ring.newest?.map (·.sequence.toNat))
    ++ beBytes 2 s.ring.free ++ beBytes 2 s.releasable
    ++ s.partFigures

/-- The READ_SEAL_REPORT response (Table 11-3). -/
def sealReportReply (s : State) : List Byte := beBytes 1 s.report.check ++ beBytes 2 s.report.item

/-- The committed shed list of tenant `i`, read from the pool (R75). -/
def shedList (s : State) (i : TenantId) : List OutletId :=
  let e := s.committed.pool.extents.get i
  (s.committed.pool.slots.drop e.first).take e.length

/-- Contract fields in the order of Table 1-1, each at the width its range needs (R168).
DEDUCED (log entry 20): the widths are read from the ranges. -/
def contractBytes (k : Contract) : List Byte :=
  [flagByte k.active] ++ beBytes 3 k.committed ++ beBytes 3 k.ceiling ++ beBytes 4 k.qmax ++ beBytes 4 k.restore
    ++ beBytes 1 k.shift ++ beBytes 1 k.dwell ++ [k.policy.code, k.cls.code]

/-- A step in flight: presence byte, outlet, action (R168). -/
def inFlightBytes : Option (OutletId × Action) → List Byte
  | none => List.replicate 4 0
  | some (o, a) => 1 :: beBytes 2 o.val ++ [a.code]

/-- The READ_TENANT response for a tenant index (R165). -/
def tenantReply (s : State) (i : TenantId) : List Byte :=
  let l := s.live.get i
  let a := s.accruals.get i
  contractBytes (s.contract i) ++ outletList (s.shedList i)
    ++ beBytes 3 l.drawA ++ beBytes 3 l.drawB ++ beBytes 3 l.demand ++ [l.zone.code] ++ beBytes 4 l.credit
    ++ [l.curtailment.code] ++ outletList l.stack.reverse ++ inFlightBytes l.inFlight ++ beBytes 2 l.sinceStep
    ++ a.energy.bytes ++ beBytes 3 a.peak
    ++ beBytes 4 a.secWithin ++ beBytes 4 a.secBurst ++ beBytes 4 a.secExhausted ++ beBytes 4 a.secOver
    ++ beBytes 2 a.shedSteps ++ beBytes 2 a.restoreSteps ++ beBytes 2 a.deferredSteps
    ++ [lineFlags a.listSpentSeen a.energy.void a.faultSeen a.energy.saturated]

/-- The READ_TENANT response for index 64, the house accrual (R53, R165).
DEDUCED (log entry 18): its two flags stand in one flag set, in the places Table 11-6 gives them. -/
def houseReply (s : State) : List Byte :=
  s.house.bytes ++ [lineFlags false s.house.void false s.house.saturated]

/-- The READ_COMPLIANCE response: state, zone and curtailment state of all 64 tenants (R165). -/
def complianceReply (s : State) : List Byte :=
  (List.finRange 64).flatMap fun i =>
    [flagByte (s.contract i).active, (s.live.get i).zone.code, (s.live.get i).curtailment.code]

/-- An outlet's owner as a byte: a tenant index, or 64 for the house.
DEDUCED (log entry 18): 64 is the number section 5.2 gives the house line. -/
def ownerByte : Option TenantId → Byte
  | none => 64
  | some i => BitVec.ofNat 8 i.val

/-- An outlet's position in the queue, preceded by a presence byte (R166, R168); where the count begins is a free
value (log entry 16). -/
def queuePosition (s : State) (o : OutletId) : List Byte :=
  match s.queue.findIdx? fun e => e.outlet == o with
  | none => [0, 0]
  | some n => [1, Config.firstQueuePosition + BitVec.ofNat 8 n]

/-- The READ_OUTLET response (R166, Table 2-3), in the order R166 lists its parts (R168).
DEDUCED (log entry 16): the entry of Table 2-3 is shown once, as the queue position that R166 names last. -/
def outletReply (s : State) (o : OutletId) : List Byte :=
  let x := s.outlets.get o
  beBytes 2 x.power ++ optField 4 (x.baseline.map (·.toNat)) ++ beBytes 6 x.estimate ++ beBytes 2 x.gap
    ++ [x.relay.code, x.cause.code, flagByte x.fault]
    ++ [ownerByte (s.attribution.get o), (s.feed (moduleOfOutlet o)).code]
    ++ s.queuePosition o

/-- The READ_MODULE response (R166, Table 2-1).
DEDUCED (log entry 19): the two status flags are two fields of one byte each. -/
def moduleReply (s : State) (m : ModuleId) : List Byte :=
  let x := s.modules.get m
  [flagByte (s.used m), (s.feed m).code, x.state.code] ++ beBytes 1 x.misses
    ++ [flagByte x.feedPresent, flagByte x.moduleFault]

/-- One entry of the READ_QUEUE response (Table 11-3). -/
def entryBytes (e : Entry) : List Byte :=
  beBytes 2 e.outlet.val ++ [e.action.code, e.origin.code, e.state.code] ++ beBytes 1 e.state.since
    ++ [flagByte e.stale.isSet]

/-- The READ_QUEUE response (R166, Table 11-3).
DEDUCED (log entry 37): the level byte is 1 while ACTUATION_HOLD is asserted. -/
def queueReply (s : State) : List Byte :=
  beBytes 1 s.queue.length ++ [flagByte s.pins.actuationHold] ++ s.queue.flatMap entryBytes

/-- Items 1 to 4 of the READ_CONFIG response: timing, CONFIG_LOCK level, modules and windows (Table 11-3 and what follows).
DEDUCED (log entry 37): the level byte is 1 while CONFIG_LOCK is asserted. -/
def configHead (t : Timing) (lock : Bool) (modules : Table ModuleConfig 16) (windows : Table (Option Window) 96) :
    List Byte :=
  beBytes 1 t.period ++ beBytes 2 t.length ++ beBytes 1 t.timeout ++ [flagByte lock]
    ++ modules.list.flatMap (fun m => [flagByte m.used, m.feed.code])
    ++ windows.list.flatMap fun w =>
        match w with
        | none => List.replicate 6 0
        | some w => 1 :: beBytes 2 w.first.val ++ beBytes 2 w.last.val ++ beBytes 1 w.tenant.val

/-- The first pool slot READ_CONFIG shows for tenant `i`; for an empty list a free value (log entry 17). -/
def poolSlotField (s : State) (i : TenantId) : Nat :=
  let e := s.committed.pool.extents.get i
  if e.length = 0 then (Config.emptyListPoolSlot i.val e.first).toNat else e.first

/-- The READ_CONFIG response of the COMMITTED view: each shed list with its first pool slot (R147). -/
def committedReply (s : State) : List Byte :=
  configHead s.committed.timing s.pins.configLock s.committed.modules s.committed.windows
    ++ (List.finRange 64).flatMap fun i =>
        contractBytes (s.contract i) ++ beBytes 2 (s.poolSlotField i) ++ outletList (s.shedList i)

/-- The READ_CONFIG response of the STAGED view: each shadow list with its length and no pool slot (R147). -/
def stagedReply (s : State) (c : Configuration) : List Byte :=
  configHead c.timing s.pins.configLock c.modules c.windows
    ++ (List.finRange 64).flatMap fun i => contractBytes (c.contracts.get i) ++ outletList (c.lists.get i)

end State
end Sys2Proof.Machine
end

