-- ==== Sys2Proof/Machine/Apply.lean ====
section
/-!
DEFINITION. The application of a sealed set (R113, R123): its effects on tenants (R13 to R16), modules (R36 to R38),
windows (R43), the shed-list pool (R75), shed stacks (R94) and the queue (R106, R107).
-/

namespace Sys2Proof.Machine

/-! ### Derived layouts -/

/-- The window covers outlet `o` (R39). -/
def Window.covers (w : Window) (o : OutletId) : Bool := decide (w.first ≤ o ∧ o ≤ w.last)

/-- The owner of outlet `o` under a window table: the tenant of the window that contains it, else the house (R43). -/
def ownerIn (windows : Table (Option Window) 96) (o : OutletId) : Option TenantId :=
  windows.list.findSome? fun w =>
    match w with
    | some x => if x.covers o then some x.tenant else none
    | none => none

/-- The attribution map of a window table (R43). -/
def attributionOf (windows : Table (Option Window) 96) : Table (Option TenantId) 384 :=
  .tabulate 384 (ownerIn windows)

/-- The first pool slot of tenant `i`'s list: the length of the lists before it (R75). -/
def poolStart (lists : Table (List OutletId) 64) (i : TenantId) : Nat :=
  ((lists.list.take i.val).map (·.length)).sum

/-- The pool laid out from shed lists: tenant 0's list from slot 0, each next list directly after it (R75). -/
def layPool (lists : Table (List OutletId) 64) : Pool :=
  { slots := lists.list.flatten
    extents := lists.imap fun i l => { first := poolStart lists i, length := l.length } }

/-- A set as the committed configuration: its lists laid into the pool (R75, R123). -/
def Configuration.committed (c : Configuration) : Committed :=
  { contracts := c.contracts, pool := layPool c.lists, windows := c.windows, modules := c.modules, timing := c.timing }

/-- The committed configuration copied whole into a shadow, each list at its own length (R145). -/
def State.shadowCopy (s : State) : Configuration :=
  { contracts := s.committed.contracts
    lists := .tabulate 64 s.shedList
    windows := s.committed.windows
    modules := s.committed.modules
    timing := s.committed.timing }

/-! ### Modules -/

/-- Set `c` removes module `m`: used before, unused after (R37). -/
def State.removes (s : State) (c : Configuration) (m : ModuleId) : Bool := s.used m && !(c.modules.get m).used

/-- Set `c` adds module `m`: unused before, used after (R36). -/
def State.adds (s : State) (c : Configuration) (m : ModuleId) : Bool := !s.used m && (c.modules.get m).used

/-- A poll of a removed module on the link: its outcome will change nothing (R23). -/
def Exchange.dropModules (gone : ModuleId → Bool) : Exchange → Exchange
  | .poll m again dropped => .poll m again (dropped || gone m)
  | x => x

/-- A running sweep after modules are removed: no retry of theirs is made, and their answers are discarded
(R23, R32, R37). -/
def Sweep.dropModules (gone : ModuleId → Bool) (w : Sweep) : Sweep :=
  { w with
    retry := w.retry.filter fun m => !gone m
    lastPoll := w.lastPoll.imap fun m x => if gone m then none else x
    capture := w.capture.imap fun m x => if gone m then none else x }

/-- The modules that set `c` removes and adds (R36, R37): entries of removed modules leave the queue without fault,
their outlets leave the shed stacks, their outlet records take the initial values, and a sweep in progress and a poll
on the link forget them.
DEDUCED (log entry 24): also the retry, the capture and the last poll of a removed module are forgotten. -/
def State.applyModules (s : State) (c : Configuration) : State :=
  let gone := s.removes c
  let added := s.adds c
  let s := s.removeEntries fun e => gone (moduleOfOutlet e.outlet)
  { s with
    live := s.live.imap fun _ l => l.unstack fun o => gone (moduleOfOutlet o)
    outlets := s.outlets.imap fun o x => if gone (moduleOfOutlet o) then .initial else x
    modules := s.modules.imap fun m x =>
      if gone m then { state := .unused, misses := 0, feedPresent := false, moduleFault := false }
      else if added m then { state := .awaiting, misses := 0, feedPresent := false, moduleFault := false }
      else x
    sweep := s.sweep.map (Sweep.dropModules gone)
    link := { s.link with exchange := s.link.exchange.map (Exchange.dropModules gone) } }

/-! ### Queue -/

/-- The entry's origin tenant is vacated by set `c`: ACTIVE before, VACANT after (R15). -/
def State.vacatedOrigin (s : State) (c : Configuration) (e : Entry) : Bool :=
  match e.origin with
  | .tenant i => (s.contract i).active && !(c.contracts.get i).active
  | .port _ => false

/-- An entry that set `c` makes stale: of tenant origin, its tenant vacated or its outlet off the tenant's new list
(R89, R107). -/
def State.madeStale (s : State) (c : Configuration) (e : Entry) : Bool :=
  match e.origin with
  | .tenant i => s.vacatedOrigin c e || !((c.lists.get i).contains e.outlet)
  | .port _ => false

/-- An ISSUED entry that set `c` makes stale, marked (R89, R15). -/
def State.markStale (s : State) (c : Configuration) (e : Entry) : Entry :=
  if s.vacatedOrigin c e then { e with stale := .vacated }
  else if s.madeStale c e && e.stale = .clear then { e with stale := .delisted }
  else e

/-- The queue after set `c`: PENDING entries made stale leave, ISSUED ones are marked (R107). -/
def State.applyQueue (s : State) (c : Configuration) : State :=
  let s' := s.removeEntries fun e => s.madeStale c e && e.isPending
  { s' with queue := s'.queue.map (s.markStale c) }

/-! ### Tenants -/

/-- The outlets that leave tenant `i`'s stack with cause ADMIN: all of a vacated tenant's (R15), those off the new list
of a continuing one's (R94). -/
def State.delisted (s : State) (c : Configuration) (i : TenantId) (o : OutletId) : Bool :=
  (s.contract i).active && !((c.contracts.get i).active && (c.lists.get i).contains o)

/-- The live part of tenant `i` after set `c`: new (R13), continuing (R14, R94) or vacated (R15). -/
def State.applyLive (s : State) (c : Configuration) (i : TenantId) (l : Live) : Live :=
  match (s.contract i).active, (c.contracts.get i).active with
  | false, false => l
  | false, true => { Live.vacant with credit := (c.contracts.get i).qmax }
  | true, true => Live.unstack (s.delisted c i) { l with credit := min l.credit (c.contracts.get i).qmax }
  | true, false => .vacant

/-- Outlet `o` stands in the stack of a tenant that set `c` takes it from (R15, R94). -/
def State.madeAdmin (s : State) (c : Configuration) (o : OutletId) : Bool :=
  (List.finRange 64).any fun i => (s.live.get i).stack.contains o && s.delisted c i o

/-- The tenants under set `c`: outlets taken off their stacks become ADMIN, and every live part follows its case. -/
def State.applyTenants (s : State) (c : Configuration) : State :=
  { s with
    outlets := s.outlets.imap fun o x => if s.madeAdmin c o then { x with cause := .admin } else x
    live := s.live.imap (s.applyLive c) }

/-! ### The whole application -/

/-- Set `c` is installed as the committed configuration (R123): modules first, since a removal decides the outcome of
its outlets, then the queue and the tenants, then the map and the pool. The generation rises by 1 and
AMENDMENT_APPLIED is raised in every port; the claim becomes IDLE. -/
def State.applySet (s : State) (c : Configuration) : State :=
  let s := ((s.applyModules c).applyQueue c).applyTenants c
  let s := { s with committed := c.committed, attribution := attributionOf c.windows, claim := .idle }
  (s.updCloser fun k => { k with generation := k.generation + 1 }).raise .amendmentApplied

end Sys2Proof.Machine
end

