-- ==== Sys2Proof/Machine/Close.lean ====
section
/-!
DEFINITION. The interval close (R114 to R125): its start with the space check, extension, abandonment and drops, and
its steps 3 to 6.
-/

namespace Sys2Proof.Machine

namespace State

/-- The set a starting close takes: the amendment unit's SEALED set, if there is one (R117). -/
def sealedSet? (s : State) : Option Configuration :=
  match s.claim with
  | .sealed c => some c
  | _ => none

/-- The ring has room for the record of a close that starts now (R119). -/
def spaceFits (s : State) : Bool := decide (s.spaceNeed ≤ s.ring.free + s.releasable)

/-- A close starts and goes ahead (R117): the close second and the taken set are recorded, and the releasable records
its room needs are dropped (R120). -/
def goAhead (s : State) (early : Bool) : State :=
  s.dropForClose.updCloser fun k =>
    { k with close := .closing { step := .build, early := early, closeSecond := s.seconds, taken := s.sealedSet? } }

/-- A scheduled close with the space short extends the interval (R119). -/
def extendInterval (s : State) : State :=
  (s.updCloser fun k =>
    { k with extensions := satRise 255 k.extensions 1, target := k.target + s.sweepsPerInterval }).raise
    .ringFullExtended

/-- A scheduled close starts (R114, R117, R119). -/
def startScheduledClose (s : State) : State := if s.spaceFits then s.goAhead false else s.extendInterval

/-- An early close starts; with the space short it is abandoned with RING_FULL (R115, R116, R119). -/
def startEarlyClose (s : State) : State × Result := if s.spaceFits then (s.goAhead true, .ok) else (s, .ringFull)

/-- The close in flight, if its next step is `k`. -/
def closeAt (s : State) (k : CloseStep) : Option CloseInFlight :=
  match s.closer.close with
  | .closing c => if c.step = k then some c else none
  | .idle => none

/-- The close in flight goes on to step `k`. -/
def closeTo (s : State) (c : CloseInFlight) (k : CloseStep) : State :=
  s.updCloser fun x => { x with close := .closing { c with step := k } }

/-- Step 3 (R121, R122): the header and lines are written into the ring. -/
def buildRecord (s : State) : State :=
  match s.closeAt .build with
  | none => s
  | some c =>
    let content := s.recordSlots c
    let s := { s with
      ring := { s.ring with
        slots := writeSlots s.ring.writePos content s.ring.slots
        building := some { sequence := s.closer.sequence, start := s.ring.writePos, length := content.length }
        writePos := (s.ring.writePos + content.length) % ringSize } }
    s.closeTo c .apply

/-- Step 4 (R123): the taken set, if there is one, is applied. -/
def applyTaken (s : State) : State :=
  match s.closeAt .apply with
  | none => s
  | some c =>
    let s := match c.taken with
      | some set => s.applySet set
      | none => s
    s.closeTo c .resetAccumulators

/-- Step 5 (R124): every interval accumulator and flag is zeroed and the notes are set for the new interval. -/
def resetAccumulators (s : State) : State :=
  match s.closeAt .resetAccumulators with
  | none => s
  | some c =>
    let s := { s with accruals := .fill 64 .zero, house := .zero }
    let s := s.updCloser fun k =>
      { k with
        noteEstimates := false, noteOverrun := false
        noteHold := s.pins.actuationHold || k.heldHold, heldHold := false }
    s.closeTo c .complete

/-- RING_LOW: free and releasable slots below 66 (R131). -/
def ringLowCheck (s : State) : State := if s.ring.free + s.releasable < 66 then s.raise .ringLow else s

/-- Step 6 up to its RING_LOW check (R125): the new interval opens, the record becomes available, the close state returns
to IDLE, INTERVAL_CLOSED is raised and the check is made.
DEDUCED (log entry 22): an assertion of ACTUATION_HOLD since step 5 is noted for the interval that opens here (R110). -/
def completeClose (s : State) : State :=
  match s.closeAt .complete with
  | none => s
  | some c =>
    let s := { s with
      ring := { s.ring with records := s.ring.records ++ s.ring.building.toList, building := none } }
    let s := s.updCloser fun k =>
      { k with
        sequence := k.sequence + 1, startSecond := c.closeSecond, counted := 0, target := s.sweepsPerInterval
        extensions := 0, noteHold := k.noteHold || s.pins.actuationHold || k.heldHold, heldHold := false
        close := .idle }
    (s.raise .intervalClosed).ringLowCheck

end State

/-- CLOSE_BUILD_RECORD (R121, R122): nothing where step 3 of a close is not what comes next. -/
def execCloseBuildRecord (s : State) : Host.Outcome State Fault Refusal := .next s.buildRecord

/-- CLOSE_APPLY (R123): nothing where step 4 of a close is not what comes next. -/
def execCloseApply (s : State) : Host.Outcome State Fault Refusal := .next s.applyTaken

/-- CLOSE_RESET_ACCUMULATORS (R124): nothing where step 5 of a close is not what comes next. -/
def execCloseResetAccumulators (s : State) : Host.Outcome State Fault Refusal := .next s.resetAccumulators

end Sys2Proof.Machine
end

