-- ==== Sys2Proof/Machine/Energy.lean ====
section
/-!
DEFINITION. The readings of a sweep applied to the outlet records (R30 to R35) and the energy arithmetic they feed
(R45 to R55).
-/

namespace Sys2Proof.Machine

/-! ### Accumulators (Table 3-1, R54) -/

/-- `acc + e` held from `lo` to `hi`, and whether it was held (R54). -/
def satAdd (lo hi acc e : Int) : Int × Bool :=
  if hi < acc + e then (hi, true) else if acc + e < lo then (lo, true) else (acc + e, false)

/-- A signed 48-bit accumulator takes `e` (Table 3-1). -/
def addSigned48 (acc e : Int) : Int × Bool := satAdd (-(2 ^ 47)) (2 ^ 47 - 1) acc e

/-- An unsigned 48-bit accumulator takes `e` (Table 3-1). -/
def addUnsigned48 (acc e : Int) : Int × Bool := satAdd 0 (2 ^ 48 - 1) acc e

namespace EnergyAcc

/-- `e` added to the energy accumulator of a feed (R45, R54). -/
def addEnergy (a : EnergyAcc) (f : Feed) (e : Int) : EnergyAcc :=
  match f with
  | .a => let r := addSigned48 a.energyA e; { a with energyA := r.1, saturated := a.saturated || r.2 }
  | .b => let r := addSigned48 a.energyB e; { a with energyB := r.1, saturated := a.saturated || r.2 }

/-- `e` added to the estimated accumulator (R49, R50, R54). -/
def addEstimated (a : EnergyAcc) (e : Int) : EnergyAcc :=
  let r := addUnsigned48 a.estimated e; { a with estimated := r.1, saturated := a.saturated || r.2 }

/-- `e` added to the correction accumulator (R48, R54). -/
def addCorrection (a : EnergyAcc) (e : Int) : EnergyAcc :=
  let r := addSigned48 a.correction e; { a with correction := r.1, saturated := a.saturated || r.2 }

end EnergyAcc

/-! ### One outlet's energy (R47 to R50) -/

/-- The rise of a counter since the baseline, modulo 2^32 (R47). -/
def counterDelta (counter baseline : Word) : Nat := (counter - baseline).toNat

/-- A delta is plausible over a span (R47). -/
def plausible (delta span : Nat) : Bool := decide (span ≤ 65535 ∧ delta ≤ 16384 * span)

/-- The position a channel block reports. -/
def Block.position (b : Block) : Relay := if b.opened then .opened else .closed

namespace State

/-- The energy accumulators of an owner, a tenant or the house, changed by `f`. -/
def updEnergy (s : State) (owner : Option TenantId) (f : EnergyAcc → EnergyAcc) : State :=
  match owner with
  | some i => s.updAccrual i fun a => { a with energy := f a.energy }
  | none => { s with house := f s.house }

/-- ESTIMATES noted for the open interval (R55). -/
def noteEstimates (s : State) : State := s.updCloser fun k => { k with noteEstimates := true }

/-- A good reading's energy where the baseline is present (R47 to R49): `x` is the outlet record before the reading. -/
def creditGood (s : State) (o : OutletId) (x : Outlet) (baseline : Word) (b : Block) : State :=
  let owner := s.attribution.get o
  let feed := s.feed (moduleOfOutlet o)
  let delta := counterDelta b.counter baseline
  if plausible delta (x.gap + s.period) then
    let e : Int := delta - x.estimate
    s.updEnergy owner fun a =>
      if 0 < x.estimate then (a.addEnergy feed e).addCorrection e else a.addEnergy feed e
  else
    let e : Int := b.power * s.period
    ((s.updEnergy owner fun a => { (a.addEnergy feed e).addEstimated e with void := true }).noteEstimates).raise
      .correctionVoid

/-- A missing reading's estimate where the baseline is present (R50). -/
def creditEstimate (s : State) (o : OutletId) (x : Outlet) : State :=
  let e : Int := x.power * s.period
  (s.updEnergy (s.attribution.get o) fun a => (a.addEnergy (s.feed (moduleOfOutlet o)) e).addEstimated e).noteEstimates

/-! ### Readings applied (R30 to R34) -/

/-- The foreign rule (Table 2-4). -/
def foreignRule (s : State) (o : OutletId) (reported : Relay) : State :=
  match reported, (s.outlets.get o).cause with
  | .closed, .shed => (s.leaveStack o).setCause o .none
  | .closed, .admin => s.setCause o .none
  | .closed, .foreign => s.setCause o .none
  | .opened, .none => s.setCause o .foreign
  | _, _ => s

/-- A good reading applied to outlet `o` (R30, R46, R47, R33, R34). -/
def applyGood (s : State) (o : OutletId) (b : Block) : State :=
  let x := s.outlets.get o
  let s := match x.baseline with
    | none => s
    | some base => s.creditGood o x base b
  let s := s.updOutlet o fun y =>
    { y with power := b.power, baseline := some b.counter, estimate := 0, gap := 0, relay := b.position }
  match s.entryOf o with
  | some e => s.entryReading e (some b.position)
  | none => s.foreignRule o b.position

/-- A missing reading applied to outlet `o` (R31, R50, R104). -/
def applyMissing (s : State) (o : OutletId) : State :=
  let x := s.outlets.get o
  let s := match x.baseline with
    | none => s
    | some _ =>
      (s.creditEstimate o x).updOutlet o fun y =>
        { y with
          gap := satRise 65535 y.gap s.period
          estimate := satRise (2 ^ 40 - 1) y.estimate (y.power * s.period) }
  match s.entryOf o with
  | some e => s.entryReading e none
  | none => s

/-- The reading of channel `c` of module `m` in sweep `w` applied: good, missing or none (R30 to R32). -/
def applyReading (w : Sweep) (m : ModuleId) (s : State) (c : Channel) : State :=
  if (w.lastPoll.get m).isNone then s
  else match w.capture.get m with
    | some a =>
      let b := a.blocks.get c
      if b.valid then s.applyGood (outletOn m c) b else s.applyMissing (outletOn m c)
    | none => s.applyMissing (outletOn m c)

/-- The capture of sweep `w` applied to the outlets of the used modules, in outlet order (R30). -/
def applyCapture (s : State) (w : Sweep) : State :=
  (List.finRange 16).foldl
    (fun s m => if s.used m then (List.finRange 24).foldl (applyReading w m) s else s) s

end State
end Sys2Proof.Machine
end

