-- ==== Sys2Proof/Machine/Demand.lean ====
section
/-!
DEFINITION. A tenant's sweep sequence: draw, smoothed demand, zone, burst credit and interval counts (R56 to R71), and
the step decision that follows it (R79 to R85, R91).
-/

namespace Sys2Proof.Machine

/-! ### Demand arithmetic -/

/-- The half term h of a smoothing shift (R59). -/
def halfTerm (k : Nat) : Nat := if k = 0 then 0 else 2 ^ (k - 1)

/-- The new smoothed demand S' = S + floor((D - S + h) / 2^k) (R59). -/
def smooth (k demand draw : Nat) : Nat :=
  ((demand : Int) + ((draw : Int) - demand + halfTerm k) / (2 ^ k : Nat)).toNat

/-- The new credit (R64). -/
def newCredit (c : Contract) (t credit demand : Nat) : Nat :=
  if demand ≤ c.committed then min c.qmax (credit + (c.committed - demand) * t)
  else credit - (demand - c.committed) * t

/-- The zone of a new demand with the new credit (R63). -/
def zoneOf (c : Contract) (demand credit : Nat) : Zone :=
  if demand ≤ c.committed then .within
  else if c.ceiling < demand then .over
  else if 0 < credit then .burst
  else .exhausted

/-- A zone that an entry from WITHIN or BURST reports with TENANT_LIMIT (R70). -/
def Zone.limited : Zone → Bool
  | .within => false
  | .burst => false
  | .exhausted => true
  | .over => true

/-- The zone seconds and the peak demand after a sweep (R68, R69). -/
def Accumulators.countSweep (a : Accumulators) (z : Zone) (t demand : Nat) : Accumulators :=
  let a := match z with
    | .within => { a with secWithin := satRise (2 ^ 32 - 1) a.secWithin t }
    | .burst => { a with secBurst := satRise (2 ^ 32 - 1) a.secBurst t }
    | .exhausted => { a with secExhausted := satRise (2 ^ 32 - 1) a.secExhausted t }
    | .over => { a with secOver := satRise (2 ^ 32 - 1) a.secOver t }
  { a with peak := max a.peak demand }

namespace State

/-- The power of outlet `o` as it counts in tenant `i`'s draw on feed `f` (R57). -/
def drawOf (s : State) (i : TenantId) (f : Feed) (o : OutletId) : Nat :=
  if s.attribution.get o = some i ∧ s.used (moduleOfOutlet o) = true ∧ s.feed (moduleOfOutlet o) = f then
    (s.outlets.get o).power
  else 0

/-- Tenant `i`'s draw on feed `f`: D_A or D_B (R57). -/
def draw (s : State) (i : TenantId) (f : Feed) : Nat := ((List.finRange 384).map (s.drawOf i f)).sum

/-- Steps 1 to 5 of tenant `i`'s sequence (R56). -/
def accountTenant (s : State) (i : TenantId) : State :=
  let k := s.contract i
  let l := s.live.get i
  let dA := s.draw i .a
  let dB := s.draw i .b
  let d := smooth k.shift l.demand (dA + dB)
  let credit := newCredit k s.period l.credit d
  let z := zoneOf k d credit
  let s := s.updLive i fun l => { l with drawA := dA, drawB := dB, demand := d, zone := z, credit := credit }
  let s := s.updAccrual i fun a => a.countSweep z s.period d
  if z.limited && !l.zone.limited then s.raise .tenantLimit else s

/-! ### Step decision -/

/-- A shed is wanted (R81). -/
def shedWanted (s : State) (i : TenantId) : Bool :=
  let k := s.contract i
  let l := s.live.get i
  let d := l.drawA + l.drawB
  decide (k.policy ≠ .report ∧ l.curtailment ≠ .restoring ∧
    ((l.zone = .over ∧ k.ceiling < d) ∨ (l.zone = .exhausted ∧ k.committed < d)))

/-- Outlet `o` may be shed by a tenant with stack `stack` (R81). -/
def candidate (s : State) (stack : List OutletId) (o : OutletId) : Bool :=
  let x := s.outlets.get o
  x.relay == .closed && x.cause == .none && !x.fault && (s.entryOf o).isNone && !stack.contains o

/-- A restore is wanted; the answer is the target, the outlet on top of the stack (R84). -/
def restoreTarget (s : State) (i : TenantId) : Option OutletId :=
  let k := s.contract i
  let l := s.live.get i
  match l.stack with
  | [] => none
  | o :: _ =>
    let x := s.outlets.get o
    if k.policy = .shedAuto ∧ l.zone = .within ∧ k.restore ≤ l.credit ∧ k.dwell ≤ l.sinceStep
      ∧ x.fault = false ∧ x.relay = .opened then some o else none

/-- A wanted step is placed, or deferred and counted when the queue is full (R83). -/
def placeStep (s : State) (i : TenantId) (o : OutletId) (a : Action) : State :=
  if s.queueFull then s.updAccrual i fun x => { x with deferredSteps := satRise 65535 x.deferredSteps 1 }
  else s.placeEntry o a (.tenant i)

/-- A wanted shed with no candidate (R82). -/
def listSpent (s : State) (i : TenantId) : State :=
  let before := (s.live.get i).curtailment
  let s := s.updAccrual i fun a => { a with listSpentSeen := true }
  if before = .clear ∨ before = .curtailed then
    (s.updLive i fun l => { l with curtailment := .listSpent }).raise .tenantLimit
  else s

/-- A wanted shed decided (R81 to R83). -/
def decideShed (s : State) (i : TenantId) : State :=
  match (s.shedList i).find? (s.candidate (s.live.get i).stack) with
  | some o => s.placeStep i o .opening
  | none => s.listSpent i

/-- The drain of a RESTORING tenant (R91).
DEDUCED (log entry 35): after a drain entry timed out, the accounting of the timeout decides already and tries again. -/
def decideDrain (s : State) (i : TenantId) : State :=
  match (s.live.get i).stack with
  | [] => s.updLive i fun l => { l with curtailment := .clear }
  | o :: _ => if (s.outlets.get o).relay = .opened then s.placeStep i o .closing else s

/-- Item 1 of R80: LIST_SPENT is left when no shed is wanted. -/
def leaveListSpent (s : State) (i : TenantId) : State :=
  if (s.live.get i).curtailment = .listSpent ∧ s.shedWanted i = false then
    s.updLive i fun l => { l with curtailment := if l.stack = [] then .clear else .curtailed }
  else s

/-- Tenant `i` decides no step: one is in flight or a stale entry of its index remains (R80 item 2). -/
def stepBlocked (s : State) (i : TenantId) : Bool :=
  (s.live.get i).inFlight.isSome || s.queue.any fun e => e.stale.isSet && e.ofTenant i

/-- Items 2 to 6 of R80. -/
def decideStep (s : State) (i : TenantId) : State :=
  if s.stepBlocked i then s
  else if (s.live.get i).curtailment = .restoring then s.decideDrain i
  else if (s.contract i).policy = .report then s
  else if s.shedWanted i then s.decideShed i
  else match s.restoreTarget i with
    | some o => s.placeStep i o .closing
    | none => s

/-- The step decision of tenant `i` (R80). -/
def decideTenant (s : State) (i : TenantId) : State :=
  ((s.leaveListSpent i).decideStep i).updLive i fun l => { l with sinceStep := satRise 65535 l.sinceStep 1 }

/-- Tenant `i`'s whole sequence with its step decision; a VACANT tenant takes no part (R56, R79). -/
def tenantSequence (s : State) (i : TenantId) : State :=
  if (s.contract i).active then (s.accountTenant i).decideTenant i else s

/-- The tenants' sequences in ascending index (R56, R79).
DEDUCED (log entry 33): each tenant's decision follows its own sequence, before the next tenant's. -/
def tenantSequences (s : State) : State := (List.finRange 64).foldl tenantSequence s

end State
end Sys2Proof.Machine
end

