-- ==== Sys2Proof/Machine/Timebase.lean ====
section
/-!
DEFINITION. The timebase, the sweep schedule, the idle timer of the claim and the ACTUATION_HOLD line: SECOND_TICK,
DUE_POINT, CLAIM_EXPIRY, ACTUATION_HOLD_ASSERT and ACTUATION_HOLD_RELEASE (R17 to R19, R108 to R110, R144).
-/

namespace Sys2Proof.Machine

namespace State

/-- A new sweep starts (R19); with no module used its polls are finished as it starts. `owed` marks the late sweep of
R20.
DEDUCED (log entry 12): the sweep runs from here, before its first poll has the link. -/
def startSweep (s : State) (owed : Bool) : State :=
  { s with
    sweep := some
      { owed := owed
        next := 0
        retry := none
        finished := !(s.committed.modules.list.any (·.used))
        lastPoll := .fill 16 none
        capture := .fill 16 none } }

/-- The due point at which the seconds count stands passes, if one does (R18, R19): the schedule moves on by t, and a
sweep starts or the due point is overrun. -/
def passDuePoint (s : State) : State :=
  if s.nextDue = some s.seconds then
    let s := { s with nextDue := some (s.seconds + BitVec.ofNat 32 s.period) }
    match s.sweep with
    | none => s.startSweep false
    | some _ => { s with late := true }.raise .sweepOverrun
  else s

/-- The claim expires (R144): the shadow is dropped, CLAIM_LOST is raised in the old claimant and CLAIM_CHANGED in the
other facility ports. -/
def expireClaim (s : State) (p : Port) : State :=
  (({ s with claim := .idle }).raiseIn .claimLost (· == p)).claimChanged (· == p)

/-- The idle timer rises by 1 while the claim is OPEN, and the claim expires where it reaches the timeout (R144). -/
def tickIdleTimer (s : State) : State :=
  match s.claim with
  | .opened p n c =>
    if s.committed.timing.timeout ≤ n + 1 then s.expireClaim p else { s with claim := .opened p (n + 1) c }
  | _ => s

/-- The seconds count rises by 1 while RUNNING (R17). -/
def countSecond (s : State) : State :=
  match s.run with
  | .running => { s with seconds := s.seconds + 1 }
  | .unconfigured => s

/-- A whole second of REFCLK (R17, R144).
DESIGN CHOICE (log entry 3): a due point at which the count already stands passes before the count goes on. -/
def secondTick (s : State) : State := s.passDuePoint.countSecond.tickIdleTimer

/-- The next whole second is the one at which the idle timer reaches the claim timeout. -/
def expiryNext (s : State) : Bool :=
  match s.claim with
  | .opened _ n _ => decide (s.committed.timing.timeout ≤ n + 1)
  | _ => false

/-- The ACTUATION_HOLD line is asserted: HOLD_SEEN is noted for the open interval of a RUNNING part, or held while a
close is in flight (R108, R110). Where it is asserted already, no assertion can be taken (log entry 1). -/
def holdAssert (s : State) : State :=
  if s.pins.actuationHold then s
  else
    let s := { s with pins := { s.pins with actuationHold := true } }
    match s.run, s.closer.close with
    | .unconfigured, _ => s
    | .running, .idle => s.updCloser fun k => { k with noteHold := true }
    | .running, .closing _ => s.updCloser fun k => { k with heldHold := true }

/-- The ACTUATION_HOLD line is released (R109); where it is released already, nothing changes (log entry 1). -/
def holdRelease (s : State) : State := { s with pins := { s.pins with actuationHold := false } }

end State

/-- SECOND_TICK (R17). -/
def execSecondTick (s : State) : Host.Outcome State Fault Refusal := .next s.secondTick

/-- DUE_POINT (R18): the due point at which the seconds count stands. -/
def execDuePoint (s : State) : Host.Outcome State Fault Refusal := .next s.passDuePoint

/-- CLAIM_EXPIRY (R144): the whole second at which the idle timer reaches the claim timeout.
DEDUCED (log entry 4): the expiry is in the event of that second, so the command is that second, and nothing where
the next second is not it. -/
def execClaimExpiry (s : State) : Host.Outcome State Fault Refusal :=
  .next (if s.expiryNext then s.secondTick else s)

/-- ACTUATION_HOLD_ASSERT (R108, R110). -/
def execActuationHoldAssert (s : State) : Host.Outcome State Fault Refusal := .next s.holdAssert

/-- ACTUATION_HOLD_RELEASE (R109). -/
def execActuationHoldRelease (s : State) : Host.Outcome State Fault Refusal := .next s.holdRelease

end Sys2Proof.Machine
end

