-- ==== Sys2Proof/Machine/LinkOps.lean ====
section
/-!
DEFINITION. The outlet link controller: polls with their retries and outcomes (R22 to R27), and the arbiter's relay
exchanges (R99 to R102).
-/

namespace Sys2Proof.Machine

/-- The state of a module after a failed outcome, with its miss count already raised (R27). -/
def ModuleState.afterMiss (misses : Nat) : ModuleState → ModuleState
  | .unused => .unused
  | .awaiting => if 3 ≤ misses then .lost else .awaiting
  | .present => if 3 ≤ misses then .lost else .missed
  | .missed => if 3 ≤ misses then .lost else .missed
  | .lost => .lost

namespace State

/-! ### Gaps and offers -/

/-- An entry the arbiter may offer the link to (R100). -/
def offerable (s : State) (e : Entry) : Bool :=
  let st := (s.modules.get (moduleOfOutlet e.outlet)).state
  e.isPending && !s.pins.actuationHold && (st == .present || st == .missed) && !e.offered

/-- A sweep's polls are in progress. -/
def polling (s : State) : Bool :=
  match s.sweep with
  | some w => !w.finished
  | none => false

/-- The arbiter may place a relay exchange: the link is free and in the idle gap, or in a poll gap with fewer than two
placed (R99). -/
def relayTurn (s : State) : Bool :=
  s.link.exchange.isNone &&
    match s.link.gap with
    | .poll placed => decide (placed < 2)
    | .idle => !s.polling

/-- The first offerable entry in queue order, where the arbiter may place an exchange (R100). -/
def offered? (s : State) : Option Entry :=
  if s.relayTurn then s.queue.find? s.offerable else none

/-! ### Polls -/

/-- The first used module at index `n` or above. -/
def usedFrom (s : State) (n : Nat) : Option ModuleId :=
  (List.finRange 16).find? fun m => decide (n ≤ m.val) && s.used m

/-- The poll the sweep makes next (R23, R25): the retry if its module is still used, else the first poll of the next
used index. -/
def nextPoll (s : State) (w : Sweep) : Option (ModuleId × Bool) :=
  match w.retry with
  | some m => if s.used m then some (m, true) else (s.usedFrom w.next).map (·, false)
  | none => (s.usedFrom w.next).map (·, false)

/-- The next poll or retry of the sweep takes the link (R23, R25, R99); where no used index is left the sweep has
passed index 15 and its polls are finished.
DEDUCED (log entry 13): in a poll gap the arbiter's exchanges come first.
DESIGN CHOICE (log entry 40): where no used index is left, the poll gap goes on as the idle gap, and an entry offered in it
stays offered. -/
def startPoll (s : State) : State :=
  match s.sweep with
  | none => s
  | some w =>
    if w.finished || s.link.exchange.isSome || s.offered?.isSome then s
    else match s.nextPoll w with
      | none =>
        { s with
          sweep := some { w with next := 16, retry := none, finished := true }
          link := { s.link with gap := .idle } }
      | some (m, again) =>
        { s with
          sweep := some
            { w with
              next := if again then w.next else m.val + 1
              retry := none
              lastPoll := w.lastPoll.set m (some (s.link.moment + 1)) }
          link := { s.link with
            exchange := some (.poll m again false), sent := pollFrame m, moment := s.link.moment + 1 } }

/-- The end of a poll exchange: a poll gap if the sweep has another poll after it, else the sweep's polls are finished
and the idle gap begins (R99). Either is a new gap, in which no entry has been offered (R100).
DEDUCED (log entry 14): whether another poll follows is read from the modules used at this moment. -/
def endPoll (s : State) : State :=
  let more := match s.sweep with
    | some w => w.retry.isSome || (s.usedFrom w.next).isSome
    | none => false
  { s with
    sweep := s.sweep.map fun w => if more then w else { w with next := 16, finished := true }
    queue := s.queue.map fun e => { e with offered := false }
    link := { s.link with
      exchange := none, gap := if more then .poll 0 else .idle, moment := s.link.moment + 1 } }

/-- A good outcome of module `m` (R26): its answer is held in the capture. -/
def goodOutcome (s : State) (m : ModuleId) (a : Answer) : State :=
  let before := (s.modules.get m).state
  let s : State := { s with sweep := s.sweep.map fun w => { w with capture := w.capture.set m (some a) } }
  let s := s.updModule m fun x =>
    { x with state := .present, misses := 0, feedPresent := a.feedPresent, moduleFault := a.moduleFault }
  if before = .missed ∨ before = .lost then s.raise .moduleBack else s

/-- A module enters LOST (R27, R106): MODULE_LOST is raised, every queue entry of its outlets leaves without fault, and
their relay fields become UNKNOWN. -/
def loseModule (s : State) (m : ModuleId) : State :=
  let s := (s.raise .moduleLost).removeEntries fun e => moduleOfOutlet e.outlet == m
  { s with outlets := s.outlets.imap fun o x => if moduleOfOutlet o = m then { x with relay := .unknown } else x }

/-- A failed outcome of module `m` (R27). -/
def failedOutcome (s : State) (m : ModuleId) : State :=
  let x := s.modules.get m
  let misses := satRise 255 x.misses 1
  let after := x.state.afterMiss misses
  let s := s.updModule m fun y => { y with misses := misses, state := after }
  if x.state ≠ .lost ∧ after = .lost then s.loseModule m else s

/-- The poll on the link ends (R24 to R27); `answer` is what a good answer carried, none where the poll failed. Of a
module made unused meanwhile the outcome changes nothing (R23). -/
def pollOutcome (s : State) (answer : Option Answer) : State :=
  match s.link.exchange with
  | some (.poll m again dropped) =>
    let s := if dropped || !s.used m then s
      else match answer with
        | some a => s.goodOutcome m a
        | none =>
          if again then s.failedOutcome m
          else { s with sweep := s.sweep.map fun w => { w with retry := some m } }
    s.endPoll
  | _ => s

/-- The bytes of a poll answer judged (R24). -/
def pollAnswer (s : State) (bytes : List Byte) : State :=
  match s.link.exchange with
  | some (.poll m _ _) => s.pollOutcome (if answerGood m bytes then some (answerOf bytes) else none)
  | _ => s

/-- The exchange on the link is a retry whose failure would bring module `m`'s miss count to 3 (R27). -/
def lossNext (s : State) (m : ModuleId) : Bool :=
  match s.link.exchange with
  | some (.poll k again dropped) =>
    k == m && again && !dropped && s.used m && !((s.modules.get m).state == .lost)
      && (s.modules.get m).state.afterMiss (satRise 255 (s.modules.get m).misses 1) == .lost
  | _ => false

/-! ### Relay exchanges -/

/-- The arbiter offers the link to the first offerable entry and sends its command (R99 to R101). -/
def startRelay (s : State) : State :=
  match s.offered? with
  | none => s
  | some e =>
    let s := s.updEntry e.outlet fun x => { x with offered := true }
    { s with
      link := { s.link with
        exchange := some (.relay e.outlet e.action true)
        gap := match s.link.gap with | .poll n => .poll (n + 1) | .idle => .idle
        sent := relayFrame e.outlet e.action
        moment := s.link.moment + 1 } }

/-- The relay exchange on the link ends; a good echo makes its entry ISSUED at this issue point (R101), unless the entry
has left the queue meanwhile (R102). -/
def endRelay (s : State) (good : Bool) : State :=
  match s.link.exchange with
  | some (.relay o _ live) =>
    let now := s.link.moment + 1
    let s := if good && live then s.updEntry o fun x => { x with state := .issued 0 now } else s
    { s with link := { s.link with exchange := none, moment := now } }
  | _ => s

/-- The bytes of a relay echo judged (R101). -/
def relayEcho (s : State) (bytes : List Byte) : State :=
  match s.link.exchange with
  | some (.relay o a _) => s.endRelay (echoGood o a bytes)
  | _ => s

end State

/-- POLL_START (R23). -/
def execPollStart (s : State) : Host.Outcome State Fault Refusal := .next s.startPoll

/-- POLL_ANSWER_RECEIVED (R24). -/
def execPollAnswerReceived (answer : List Byte) (s : State) : Host.Outcome State Fault Refusal :=
  .next (s.pollAnswer answer)

/-- POLL_ANSWER_TIMEOUT (R24): the poll on the link fails. -/
def execPollAnswerTimeout (s : State) : Host.Outcome State Fault Refusal := .next (s.pollOutcome none)

/-- MODULE_ENTERS_LOST (R27): the failed retry that brings module `m`'s miss count to 3.
DEDUCED (log entry 4): the module enters LOST at the end of that retry, so the command is that end, and nothing where
the exchange on the link is not such a retry. -/
def execModuleEntersLost (m : ModuleId) (s : State) : Host.Outcome State Fault Refusal :=
  .next (if s.lossNext m then s.pollOutcome none else s)

/-- RELAY_EXCHANGE_START (R100). -/
def execRelayExchangeStart (s : State) : Host.Outcome State Fault Refusal := .next s.startRelay

/-- RELAY_ECHO_RECEIVED (R101). -/
def execRelayEchoReceived (echo : List Byte) (s : State) : Host.Outcome State Fault Refusal := .next (s.relayEcho echo)

/-- RELAY_ECHO_TIMEOUT (R101): the echo is not good and the entry stays PENDING. -/
def execRelayEchoTimeout (s : State) : Host.Outcome State Fault Refusal := .next (s.endRelay false)

end Sys2Proof.Machine
end

