-- ==== Sys2Proof/Machine/Accounting.lean ====
section
/-!
DEFINITION. The accounting of a sweep (R28) and the events that fall in it: SWEEP_ACCOUNTING, ENTRY_TIMEOUT and
SCHEDULED_CLOSE_START (R104, R114), and CLOSE_COMPLETE, whose event takes the accounting that waited (R125).
-/

namespace Sys2Proof.Machine

namespace State

/-- The sweep whose accounting may be taken: its polls are finished and no close is in flight (R28). -/
def accountable? (s : State) : Option Sweep :=
  match s.sweep, s.closer.close with
  | some w, .idle => if w.finished then some w else none
  | _, _ => none

/-- The end of an accounting (R28, R19, R20): the sweep is counted and no longer running, the late sweep makes its
OVERRUN_SEEN note, and a late sweep that is owed starts at once. -/
def finishSweep (s : State) (w : Sweep) : State :=
  let s := s.updCloser fun k => { k with counted := k.counted + 1, noteOverrun := k.noteOverrun || w.owed }
  if s.late then { s with late := false }.startSweep true else { s with sweep := none }

/-- The scheduled close that follows an accounting in the same event, where the sweeps counted equals the close target
(R114). -/
def closeIfDue (s : State) : State := if s.closer.counted = s.closer.target then s.startScheduledClose else s

/-- The accounting of sweep `w`: capture, tenants' sequences and decisions, sweep counted, and the scheduled close it
brings about.
DEDUCED (log entry 35): a tenant whose entry times out here decides in this same accounting, as section 6.8 shows. -/
def accountSweep (s : State) (w : Sweep) : State :=
  (((s.applyCapture w).tenantSequences).finishSweep w).closeIfDue

/-- The accounting of the sweep whose polls are finished, where it may be taken (R28). -/
def takeAccounting (s : State) : State :=
  match s.accountable? with
  | some w => s.accountSweep w
  | none => s

/-- Step 6 of a close whole (R125): the completion, then in the same event the accounting that waited, as the first
sweep of the new interval, and that of the late sweep which starts after it where it has no polls (R19, R20). -/
def finishClose (s : State) : State :=
  match s.closeAt .complete with
  | none => s
  | some _ => s.completeClose.takeAccounting.takeAccounting

/-- The position the sweep's capture reports for outlet `o`, none for a missing reading (R30, R31). -/
def reported? (w : Sweep) (o : OutletId) : Option Relay :=
  match w.capture.get (moduleOfOutlet o) with
  | some a =>
    let b := a.blocks.get (channelOfOutlet o)
    if b.valid then some b.position else none
  | none => none

/-- The accounting that may be taken now is the one in which the entry of outlet `o` times out: the sweep observes it,
does not confirm it, and is the third to do so (R104). -/
def timeoutNext (s : State) (o : OutletId) : Bool :=
  match s.accountable?, s.entryOf o with
  | some w, some e =>
    s.used (moduleOfOutlet o) &&
      match e.state with
      | .issued since point =>
        s.observes o point && decide (3 ≤ since + 1) && !(reported? w o == some e.action.position)
      | .pending => false
  | _, _ => false

/-- The accounting that may be taken now is the one that brings the sweeps counted to the close target (R114). -/
def closeNext (s : State) : Bool := s.accountable?.isSome && decide (s.closer.counted + 1 = s.closer.target)

end State

/-- SWEEP_ACCOUNTING (R28): nothing where no sweep may be accounted.
DESIGN CHOICE (log entry 5): the accounting is a command of its own, after the polls are finished. -/
def execSweepAccounting (s : State) : Host.Outcome State Fault Refusal := .next s.takeAccounting

/-- ENTRY_TIMEOUT (R104) of outlet `o`'s entry: the accounting in which its sweeps since issue reaches 3.
DEDUCED (log entry 4): the entry leaves the queue in that same accounting, so the command is that accounting, and
nothing where the accounting that may be taken is not it. -/
def execEntryTimeout (o : OutletId) (s : State) : Host.Outcome State Fault Refusal :=
  .next (if s.timeoutNext o then s.takeAccounting else s)

/-- SCHEDULED_CLOSE_START (R114): the accounting in which the sweeps counted reaches the close target.
DEDUCED (log entry 4): the close starts in the same event as the end of that accounting, so the command is that
accounting, and nothing where the accounting that may be taken is not it. -/
def execScheduledCloseStart (s : State) : Host.Outcome State Fault Refusal :=
  .next (if s.closeNext then s.takeAccounting else s)

/-- CLOSE_COMPLETE (R125): nothing where step 6 of a close is not what comes next. -/
def execCloseComplete (s : State) : Host.Outcome State Fault Refusal := .next s.finishClose

end Sys2Proof.Machine
end

