-- ==== Sys2Proof/Machine/Curtail.lean ====
section
/-!
DEFINITION. The requests of the curtailment unit and the interval closer: SET_OUTLET (R92), RESTORE_TENANT (R90) and
END_INTERVAL (R115).
-/

namespace Sys2Proof.Machine

namespace State

/-- The fault flag of outlet `o` is cleared, as by every SET_OUTLET answered OK (R92). -/
def clearFault (s : State) (o : OutletId) : State := s.updOutlet o fun x => { x with fault := false }

/-- The cases of R92 for an outlet of a used module, in its order. -/
def setOutletCases (p : Port) (o : OutletId) (a : Action) (s : State) : State × Result :=
  let x := s.outlets.get o
  if x.cause = .shed then (s, .curtailed)
  else if (s.entryOf o).isSome then (s, .outletBusy)
  else if x.relay = a.position then
    match a with
    | .opening => ((s.setCause o .admin).clearFault o, .ok)
    | .closing => (s.clearFault o, .ok)
  else if s.queueFull then (s, .busy)
  else ((s.placeEntry o a (.port p)).clearFault o, .ok)

/-- SET_OUTLET taken from facility port `p` (R92). -/
def setOutlet (p : Port) (outlet : BitVec 16) (action : Byte) (s : State) : State × Result :=
  if s.closing then (s, .busy)
  else match outletOf? outlet, actionOf? action with
    | some o, some a => if s.used (moduleOfOutlet o) then s.setOutletCases p o a else (s, .range)
    | _, _ => (s, .range)

/-- A restored tenant's live part: credit at Qmax, and RESTORING where its stack is not empty (R90). -/
def restoredLive (qmax : Nat) (l : Live) : Live :=
  { l with credit := qmax, curtailment := if l.stack = [] then l.curtailment else .restoring }

/-- RESTORE_TENANT taken from a facility port (R90). -/
def restoreTenant (tenant : Byte) (s : State) : State × Result :=
  if s.closing then (s, .busy)
  else match tenantOf? tenant with
    | none => (s, .range)
    | some i =>
      if (s.contract i).active then (s.updLive i (restoredLive (s.contract i).qmax), .ok) else (s, .range)

/-- END_INTERVAL taken from a facility port (R115). -/
def endInterval (s : State) : State × Result :=
  match s.run with
  | .unconfigured => (s, .noneOpen)
  | .running => if s.closing then (s, .busy) else s.startEarlyClose

end State

/-- SET_OUTLET (R92). -/
def execSetOutlet (p : Port) (e : FrameEdge) (outlet : BitVec 16) (action : Byte) (s : State) :
    Host.Outcome State Fault Refusal :=
  .next (s.writeRequest p e (State.facilityOnly p (State.setOutlet p outlet action)))

/-- RESTORE_TENANT (R90). -/
def execRestoreTenant (p : Port) (e : FrameEdge) (tenant : Byte) (s : State) : Host.Outcome State Fault Refusal :=
  .next (s.writeRequest p e (State.facilityOnly p (State.restoreTenant tenant)))

/-- END_INTERVAL (R115). -/
def execEndInterval (p : Port) (e : FrameEdge) (s : State) : Host.Outcome State Fault Refusal :=
  .next (s.writeRequest p e (State.facilityOnly p State.endInterval))

end Sys2Proof.Machine
end

