-- ==== Sys2Proof/Machine/Amendment.lean ====
section
/-!
DEFINITION. The amendment unit: the claim, the staging requests, validation and the seal (R2, R3, R40 to R42, R73, R74,
R113, R116, R142 to R154).
-/

namespace Sys2Proof.Machine

/-! ### Validation (R149) -/

/-- Check 1: L is a whole multiple of t. -/
def Configuration.timingFault (c : Configuration) : Bool := !(c.timing.length % c.timing.period == 0)

/-- Check 2 at a tenant: ACTIVE with K < C or R > Qmax (R3). -/
def Contract.faulty (k : Contract) : Bool :=
  k.active && (decide (k.ceiling < k.committed) || decide (k.qmax < k.restore))

/-- Two windows share an outlet (R41). -/
def Window.overlaps (w v : Window) : Bool := decide (w.first ≤ v.last ∧ v.first ≤ w.last)

/-- Check 3 at a slot: it names a VACANT tenant or overlaps a non-empty slot of lower number (R41). -/
def Configuration.windowFault (c : Configuration) (n : WindowSlot) : Bool :=
  match c.windows.get n with
  | none => false
  | some w =>
    !(c.contracts.get w.tenant).active ||
      (List.finRange 96).any fun k =>
        decide (k < n) &&
          match c.windows.get k with
          | some v => w.overlaps v
          | none => false

/-- A module feed that a class does not admit (R3, R11). -/
def TenantClass.refuses : TenantClass → Feed → Bool
  | .singleA, .b => true
  | .singleB, .a => true
  | _, _ => false

/-- Check 4 at an outlet: its module is used, and it lies in a window of a tenant whose class does not admit the module's
feed (R42). -/
def Configuration.feedFault (c : Configuration) (o : OutletId) : Bool :=
  let m := c.modules.get (moduleOfOutlet o)
  m.used &&
    match ownerIn c.windows o with
    | some i => (c.contracts.get i).cls.refuses m.feed
    | none => false

/-- Check 5 at a tenant: VACANT with a list, a repeated entry, or an entry the windows do not attribute to it (R74). -/
def Configuration.listFault (c : Configuration) (i : TenantId) : Bool :=
  let l := c.lists.get i
  (!(c.contracts.get i).active && !l.isEmpty) || !decide l.Nodup || l.any fun o => !(ownerIn c.windows o == some i)

/-- Check 6 at a tenant: its list brings the running total above 512 (R74). -/
def Configuration.poolFault (c : Configuration) (i : TenantId) : Bool :=
  decide (512 < poolStart c.lists i + (c.lists.get i).length)

/-- Validation: the first check to fail and its item, none when all six pass (R149). -/
def Configuration.validate (c : Configuration) : Option SealReport :=
  if c.timingFault then some { check := 1, item := 0 }
  else match (List.finRange 64).find? fun i => (c.contracts.get i).faulty with
  | some i => some { check := 2, item := i.val }
  | none =>
    match (List.finRange 96).find? c.windowFault with
    | some n => some { check := 3, item := n.val }
    | none =>
      match (List.finRange 384).find? c.feedFault with
      | some o => some { check := 4, item := o.val }
      | none =>
        match (List.finRange 64).find? c.listFault with
        | some i => some { check := 5, item := i.val }
        | none =>
          match (List.finRange 64).find? c.poolFault with
          | some i => some { check := 6, item := i.val }
          | none => none

namespace State

/-! ### The claim -/

/-- The claim check of a claimant request (R143): from the claimant it goes on with the shadow, from another port it is
refused NOT_CLAIMANT, and with nothing open NONE_OPEN. -/
def asClaimant (s : State) (p : Port) (take : Configuration → State × Result) : State × Result :=
  match s.claim with
  | .opened q _ c => if q = p then take c else (s, .notClaimant)
  | _ => (s, .noneOpen)

/-- The claimant `p` writes its shadow. -/
def writeShadow (s : State) (p : Port) (c : Configuration) : State × Result :=
  ({ s with claim := .opened p 0 c }, .ok)

/-- A staging request of port `p`: after the role gate and the claim check, its own checks give the shadow it leaves, or
refuse it with RANGE (R143, R146). -/
def stage (p : Port) (write : Configuration → Option Configuration) (s : State) : State × Result :=
  facilityOnly p (fun s => s.asClaimant p fun c =>
    match write c with
    | some c' => s.writeShadow p c'
    | none => (s, .range)) s

/-- OPEN_AMENDMENT taken from port `p` (R145). -/
def openAmendment (p : Port) (s : State) : State × Result :=
  match s.claim with
  | .idle => (({ s with claim := .opened p 0 s.shadowCopy }).claimChanged (· == p), .ok)
  | .opened q n c => if q = p then ({ s with claim := .opened q n c }, .ok) else (s, .claimed)
  | .sealed _ => (s, .pending)

/-- TAKEOVER_AMENDMENT taken from port `p` (R154). -/
def takeover (p : Port) (s : State) : State × Result :=
  match s.claim with
  | .idle => (s, .noneOpen)
  | .sealed _ => (s, .pending)
  | .opened q n c =>
    if q = p then ({ s with claim := .opened q n c }, .ok)
    else
      ((({ s with claim := .opened p 0 c }).raiseIn .claimLost (· == q)).claimChanged fun r => r == p || r == q, .ok)

/-- A close in flight holds the amendment unit's set as its taken set: it took one and has not come to step 4 (R153). -/
def takenHeld (s : State) : Bool :=
  match s.closer.close with
  | .idle => false
  | .closing c => c.taken.isSome && (c.step == .build || c.step == .apply)

/-- RECALL_SEALED taken from port `p` (R153). -/
def recallTaken (p : Port) (s : State) : State × Result :=
  match s.claim with
  | .idle => (s, .noneOpen)
  | .opened _ _ _ => (s, .claimed)
  | .sealed _ =>
    if s.takenHeld then (s, .busy) else (({ s with claim := .idle }).claimChanged (· == p), .ok)

/-- DISCARD_AMENDMENT taken from the claimant `p` (R152). -/
def discard (p : Port) (s : State) : State × Result :=
  s.asClaimant p fun _ => (({ s with claim := .idle }).claimChanged (· == p), .ok)

/-! ### The seal -/

/-- A valid seal in an UNCONFIGURED part (R113): the set is applied at once, the part becomes RUNNING and interval 1
opens. -/
def firstApplication (s : State) (c : Configuration) : State :=
  let s := s.applySet c
  let s := { s with run := .running, seconds := 0, nextDue := some (BitVec.ofNat 32 s.period) }
  s.updCloser fun k =>
    { k with
      sequence := 1, startSecond := 0, counted := 0, target := s.sweepsPerInterval, extensions := 0
      noteEstimates := false, noteOverrun := false, noteHold := s.pins.actuationHold }

/-- A seal that passes validation (R150): applied at once in an UNCONFIGURED part, else SEALED, with CLOSE_NOW starting
an early close where none is in flight (R116). -/
def sealTaken (s : State) (p : Port) (c : Configuration) (closeNow : Bool) : State × Result :=
  let s := ({ s with claim := .sealed c }).claimChanged (· == p)
  match s.run with
  | .unconfigured => (s.firstApplication c, .ok)
  | .running => if closeNow && !s.closing then s.startEarlyClose else (s, .ok)

/-- SEAL_AMENDMENT taken from the claimant `p` (R148); `lock` is the level of CONFIG_LOCK, sampled here (R151). -/
def sealRequest (p : Port) (timing : Byte) (lock : Bool) (s : State) : State × Result :=
  s.asClaimant p fun c =>
    match timingChoiceOf? timing with
    | none => (s, .range)
    | some closeNow =>
      if lock then (s, .locked)
      else match c.validate with
        | some r => ({ s with report := r }, .invalid)
        | none => s.sealTaken p c closeNow

/-- A request of port `p` finds the CONFIG_LOCK line at level `lock`; a DISABLED port ignores the frame.
DESIGN CHOICE (log entry 7): the two requests that look at the line carry its level. -/
def sampleLock (s : State) (p : Port) (lock : Bool) : State :=
  if s.role p = .disabled then s else { s with pins := { s.pins with configLock := lock } }

end State

/-! ### Staging -/

/-- STAGE_TENANT's write into the shadow (R2). -/
def stageTenantWrite (tenant state : Byte) (committed ceiling qmax restore : Word) (shift dwell policy cls : Byte)
    (c : Configuration) : Option Configuration := do
  let i ← tenantOf? tenant
  let k ← contractOf? state committed ceiling qmax restore shift dwell policy cls
  return { c with contracts := c.contracts.set i k }

/-- STAGE_WINDOW's write into the shadow (R40). -/
def stageWindowWrite (slot operation : Byte) (first last : BitVec 16) (tenant : Byte) (c : Configuration) :
    Option Configuration := do
  let n ← slotOf? slot
  let w ← windowOf? operation first last tenant
  return { c with windows := c.windows.set n w }

/-- STAGE_SHED_LIST's write into the shadow (R73). -/
def stageShedListWrite (tenant count : Byte) (outlets : List (BitVec 16)) (c : Configuration) :
    Option Configuration := do
  let i ← tenantOf? tenant
  let n ← inRange? 0 16 count.toNat
  let l ← outletsOf? (outlets.take n)
  return { c with lists := c.lists.set i l }

/-- STAGE_MODULE's write into the shadow (R146). -/
def stageModuleWrite (module used feed : Byte) (c : Configuration) : Option Configuration := do
  let m ← moduleOf? module
  let u ← usedOf? used
  let f ← feedOf? feed
  return { c with modules := c.modules.set m { used := u, feed := f } }

/-- STAGE_TIMING's write into the shadow (R146). -/
def stageTimingWrite (period : Byte) (length : BitVec 16) (timeout : Byte) (c : Configuration) : Option Configuration := do
  let t ← timingOf? period length timeout
  return { c with timing := t }

/-! ### The requests -/

/-- OPEN_AMENDMENT (R145). -/
def execOpenAmendment (p : Port) (e : FrameEdge) (s : State) : Host.Outcome State Fault Refusal :=
  .next (s.writeRequest p e (State.facilityOnly p (State.openAmendment p)))

/-- TAKEOVER_AMENDMENT (R154). -/
def execTakeoverAmendment (p : Port) (e : FrameEdge) (s : State) : Host.Outcome State Fault Refusal :=
  .next (s.writeRequest p e (State.facilityOnly p (State.takeover p)))

/-- RECALL_SEALED (R153). -/
def execRecallSealed (p : Port) (e : FrameEdge) (s : State) : Host.Outcome State Fault Refusal :=
  .next (s.writeRequest p e (State.facilityOnly p (State.recallTaken p)))

/-- DISCARD_AMENDMENT (R152). -/
def execDiscardAmendment (p : Port) (e : FrameEdge) (s : State) : Host.Outcome State Fault Refusal :=
  .next (s.writeRequest p e (State.facilityOnly p (State.discard p)))

/-- SEAL_AMENDMENT (R148). -/
def execSealAmendment (p : Port) (e : FrameEdge) (timing : Byte) (lock : Bool) (s : State) :
    Host.Outcome State Fault Refusal :=
  .next ((s.sampleLock p lock).writeRequest p e (State.facilityOnly p (State.sealRequest p timing lock)))

/-- STAGE_TENANT (R2). -/
def execStageTenant (p : Port) (e : FrameEdge) (tenant state : Byte) (committed ceiling qmax restore : Word)
    (shift dwell policy cls : Byte) (s : State) : Host.Outcome State Fault Refusal :=
  .next (s.writeRequest p e
    (State.stage p (stageTenantWrite tenant state committed ceiling qmax restore shift dwell policy cls)))

/-- STAGE_WINDOW (R40). -/
def execStageWindow (p : Port) (e : FrameEdge) (slot operation : Byte) (first last : BitVec 16) (tenant : Byte)
    (s : State) : Host.Outcome State Fault Refusal :=
  .next (s.writeRequest p e (State.stage p (stageWindowWrite slot operation first last tenant)))

/-- A frame that ends before the outlets its count byte promises (R160, R168): a count above 16 promises none. -/
def listShort (count : Byte) (outlets : List (BitVec 16)) : Bool :=
  decide (count.toNat ≤ 16 ∧ outlets.length < count.toNat)

/-- STAGE_SHED_LIST (R73). A frame short of the outlets its count promises is discarded (R160, R168).
DEDUCED (log entry 28): entries past the count are bytes past the request's full length, which are ignored. -/
def execStageShedList (p : Port) (e : FrameEdge) (tenant count : Byte) (outlets : List (BitVec 16)) (s : State) :
    Host.Outcome State Fault Refusal :=
  .next (if listShort count outlets then s.discardFrame p e
    else s.writeRequest p e (State.stage p (stageShedListWrite tenant count outlets)))

/-- STAGE_MODULE (R146). -/
def execStageModule (p : Port) (e : FrameEdge) (module used feed : Byte) (s : State) : Host.Outcome State Fault Refusal :=
  .next (s.writeRequest p e (State.stage p (stageModuleWrite module used feed)))

/-- STAGE_TIMING (R146). -/
def execStageTiming (p : Port) (e : FrameEdge) (period : Byte) (length : BitVec 16) (timeout : Byte) (s : State) :
    Host.Outcome State Fault Refusal :=
  .next (s.writeRequest p e (State.stage p (stageTimingWrite period length timeout)))

end Sys2Proof.Machine
end

