-- ==== Sys2Proof/Machine/Delivery.lean ====
section
/-!
DEFINITION. Delivery of records: SUBSCRIBE, READ_RECORDS with RECORD_SLOT_STREAMED, ACK_RECORDS and SEEK_DELIVERY
(R132 to R138).
-/

namespace Sys2Proof.Machine

/-! ### Subscriptions -/

/-- The delivery state that a change to `mode` leaves, the oldest record's sequence being `oldest` (R133). -/
def Delivery.fresh (oldest : Word) : Mode → Delivery
  | .unsubscribed => .unsubscribed
  | .follow => .follow oldest (oldest - 1)
  | .retain => .retain oldest (oldest - 1) (oldest - 1)

/-- The delivery state after the latest record received whole in a frame was `q` (R135). -/
def Delivery.takeWhole (q : Word) (d : Delivery) : Delivery :=
  let d := match d.cursor? with
    | some c => if later (q + 1) c then d.withCursor (q + 1) else d
    | none => d
  match d.mark? with
  | some m => if later q m then d.withMark q else d
  | none => d

/-! ### The stream of a READ_RECORDS frame -/

/-- The stream before its first slot. -/
def Stream.start : Stream := { ended := false, current := none, lastWhole := none }

/-- The slot being clocked out was clocked out in full: where it is a record's final slot, that record was received
whole (R135). -/
def Stream.slotWhole (t : Stream) : Stream :=
  match t.current with
  | some (r, k) => if k + 1 = r.length then { t with lastWhole := some r.sequence } else t
  | none => t

/-- The place of the next slot of a stream whose last slot is whole: none once only end slots follow (R134, R136).
`cursor` is the port's delivery cursor.
DESIGN CHOICE (log entry 39): a slot counts as being clocked out until the next one begins, so a record dropped after its
final slot went out in full, and before that, ends the stream as well. -/
def Stream.nextPlace (ring : Ring) (cursor : Option Word) (t : Stream) : Option (Rec × Nat) :=
  if t.ended then none
  else match t.current with
    | none => (cursor.bind ring.find?).map (·, 0)
    | some (r, k) =>
      if !ring.records.contains r then none
      else if k + 1 < r.length then some (r, k + 1)
      else (ring.find? (r.sequence + 1)).map (·, 0)

/-- The stream once the next slot begins: at a slot of a record, or at an end slot (R134). -/
def Stream.advance (ring : Ring) (cursor : Option Word) (t : Stream) : Stream :=
  let t := t.slotWhole
  match t.nextPlace ring cursor with
  | some place => { t with current := some place }
  | none => { t with current := none, ended := true }

/-- The bytes of the slot a stream stands at: the ring's slot, or an end slot (R134). -/
def Stream.bytes (ring : Ring) (t : Stream) : List Byte :=
  match t.current with
  | some (r, k) => (readSlot ring.slots ((r.start + k) % ringSize)).getD endSlot
  | none => endSlot

namespace State

/-- The result of READ_RECORDS (R134, R135); its slots stand in place of a response. -/
def recordsForm (p : Port) (s : State) : Result × List Byte :=
  match (s.ports.get p).delivery with
  | .unsubscribed => (.notSubscribed, [])
  | _ => (.ok, [])

/-- The stream that port `p`'s frame holds. -/
def stream? (s : State) (p : Port) : Option Stream := (s.ports.get p).frame.bind (·.stream)

/-- The stream of port `p`'s frame becomes `t`. -/
def withStream (s : State) (p : Port) (t : Stream) : State :=
  s.updPort p fun q => { q with frame := q.frame.map fun f => { f with stream := some t } }

/-- The snapshot point of READ_RECORDS, the end of its request code: its result is settled and its stream begins
(R134, R159). -/
def startStream (s : State) (p : Port) : State :=
  (s.takeSnapshot p 0x31 [] (recordsForm p)).withStream p .start

/-- The snapshot point of READ_RECORDS in a frame that holds no snapshot yet. -/
def ensureStream (s : State) (p : Port) : State := if (s.latch? p).isSome then s else s.startStream p

/-- The records received whole in port `p`'s frame are taken (R135); `lastSlotWhole` says that the last slot begun was
clocked out in full. -/
def takeRecords (s : State) (p : Port) (lastSlotWhole : Bool) : State :=
  match s.stream? p with
  | none => s
  | some t =>
    match (if lastSlotWhole then t.slotWhole else t).lastWhole with
    | none => s
    | some q => s.updPort p fun x => { x with delivery := x.delivery.takeWhole q }

/-- A READ_RECORDS frame of port `p` ends (R135): refused without a subscription, else OK with the records received
whole taken. -/
def endRecords (s : State) (p : Port) (lastSlotWhole : Bool) : State :=
  match s.latched p 0x31 [] with
  | some .ok => (s.takeRecords p lastSlotWhole).endFrame p .ok
  | some r => s.endFrame p r
  | none => (s.startStream p).endFrame p (recordsForm p s).1

/-- READ_RECORDS at moment `m` of its frame (R134, R135). -/
def readRecords (s : State) (p : Port) (m : ReadMoment) (lastSlotWhole : Bool) : State :=
  if s.role p = .disabled then s
  else
    let s := s.ensureFrame p
    match m with
    | .selectFalls => s
    | .snapshot => s.ensureStream p
    | .selectRises => s.endRecords p lastSlotWhole

/-- The first byte of the next slot of port `p`'s READ_RECORDS frame begins: the slot before it was clocked out in full,
and this one is read from the ring whole (R134, R136). A frame that holds another request's snapshot has no slots.
DESIGN CHOICE (log entry 27): the frame and its stream begin here where no command began them. -/
def streamSlot (s : State) (p : Port) : State :=
  if s.role p = .disabled then s
  else
    let s := (s.ensureFrame p).ensureStream p
    match s.stream? p with
    | none => s
    | some t =>
      let t := t.advance s.ring (s.ports.get p).delivery.cursor?
      (s.withStream p t).updPort p fun q => { q with reply := t.bytes s.ring }

/-- SUBSCRIBE taken from port `p` (R133), after the role gate of its mode (R158, Table 10-2). -/
def subscribe (p : Port) (mode : Byte) (s : State) : State × Result :=
  match modeOf? mode with
  | none => (s, .range)
  | some m =>
    if m = .retain ∧ s.role p = .viewer then (s, .role)
    else if m = (s.ports.get p).delivery.mode then (s, .ok)
    else (s.updPort p fun q => { q with delivery := .fresh s.oldestSequence m }, .ok)

/-- ACK_RECORDS taken from port `p` (R137).
DESIGN CHOICE (log entry 38): the mark is tested first, so a sequence both later than the mark and below the
acknowledgement point, as modulo 2^32 some are, is refused. -/
def ackRecords (p : Port) (q : Word) (s : State) : State × Result :=
  match (s.ports.get p).delivery with
  | .retain c a m =>
    if later q m then (s, .range)
    else if later q a then (s.updPort p fun x => { x with delivery := .retain c q m }, .ok)
    else (s, .ok)
  | _ => (s, .notSubscribed)

/-- SEEK_DELIVERY taken from port `p` (R138). -/
def seekDelivery (p : Port) (q : Word) (s : State) : State × Result :=
  match (s.ports.get p).delivery with
  | .unsubscribed => (s, .notSubscribed)
  | _ =>
    if (s.ring.find? q).isSome then (s.updPort p fun x => { x with delivery := x.delivery.withCursor q }, .ok)
    else (s, .range)

end State

/-- SUBSCRIBE (R133). -/
def execSubscribe (p : Port) (e : FrameEdge) (mode : Byte) (s : State) : Host.Outcome State Fault Refusal :=
  .next (s.writeRequest p e (State.subscribe p mode))

/-- READ_RECORDS (R134, R135). -/
def execReadRecords (p : Port) (m : ReadMoment) (lastSlotWhole : Bool) (s : State) :
    Host.Outcome State Fault Refusal :=
  .next (s.readRecords p m lastSlotWhole)

/-- RECORD_SLOT_STREAMED (R134, R136). -/
def execRecordSlotStreamed (p : Port) (s : State) : Host.Outcome State Fault Refusal := .next (s.streamSlot p)

/-- ACK_RECORDS (R137). -/
def execAckRecords (p : Port) (e : FrameEdge) (sequence : Word) (s : State) : Host.Outcome State Fault Refusal :=
  .next (s.writeRequest p e (State.notViewer p (State.ackRecords p sequence)))

/-- SEEK_DELIVERY (R138). -/
def execSeekDelivery (p : Port) (e : FrameEdge) (sequence : Word) (s : State) : Host.Outcome State Fault Refusal :=
  .next (s.writeRequest p e (State.seekDelivery p sequence))

end Sys2Proof.Machine
end

