-- ==== Sys2Proof/Machine/Ports.lean ====
section
/-!
DEFINITION. The requests that the management ports own: frames that are discarded, empty, unknown or at a DISABLED port
(R157, R160), the read requests (R147, R164 to R166), the notices and the alert mask (R163), and RESET_PORT (R167).
-/

namespace Sys2Proof.Machine

namespace State

/-! ### Read requests: the checks and the response at the snapshot point -/

/-- READ_TENANT (R165): BUSY in a close, whatever the index; index 64 is the house accrual. -/
def tenantForm (index : Byte) (s : State) : Result × List Byte :=
  if s.closing then (.busy, [])
  else if index = 64 then (.ok, s.houseReply)
  else match tenantOf? index with
    | some i => (.ok, s.tenantReply i)
    | none => (.range, [])

/-- READ_COMPLIANCE (R165): BUSY in a close. -/
def complianceForm (s : State) : Result × List Byte := if s.closing then (.busy, []) else (.ok, s.complianceReply)

/-- READ_OUTLET (R166). -/
def outletForm (outlet : BitVec 16) (s : State) : Result × List Byte :=
  match outletOf? outlet with
  | some o => (.ok, s.outletReply o)
  | none => (.range, [])

/-- READ_MODULE (R166). -/
def moduleForm (module : Byte) (s : State) : Result × List Byte :=
  match moduleOf? module with
  | some m => (.ok, s.moduleReply m)
  | none => (.range, [])

/-- The shadow that port `p` may read in the STAGED view: the claimant's while OPEN, any facility port's while SEALED
(R147). -/
def readableShadow (p : Port) (s : State) : Option Configuration :=
  match s.claim with
  | .idle => none
  | .opened q _ c => if q = p then some c else none
  | .sealed c => if s.role p = .facility then some c else none

/-- READ_CONFIG (R147, R166). -/
def configForm (p : Port) (view : Byte) (s : State) : Result × List Byte :=
  match viewOf? view with
  | none => (.range, [])
  | some false => (.ok, s.committedReply)
  | some true =>
    match s.readableShadow p with
    | some c => (.ok, s.stagedReply c)
    | none => (.noneOpen, [])

/-! ### Notices and the alert mask (R163) -/

/-- CLEAR_NOTICES taken from port `p`. -/
def clearNotices (p : Port) (notices : BitVec 16) (s : State) : State × Result :=
  (s.updPort p fun q => { q with notices := q.notices &&& ~~~ noticeField notices }, .ok)

/-- SET_ALERT_MASK taken from port `p`. -/
def setAlertMask (p : Port) (notices : BitVec 16) (s : State) : State × Result :=
  (s.updPort p fun q => { q with mask := noticeField notices }, .ok)

/-! ### RESET_PORT (R167) -/

/-- A port at its reset state, its role kept; the frame that carries the request is still in progress. -/
def portReset (q : PortState) : PortState :=
  { q with result := .ok, notices := 0, mask := 0, delivery := .unsubscribed, skipped := 0 }

/-- RESET_PORT taken from port `p`: where it is the claimant of an OPEN claim the shadow is dropped too (R155). -/
def resetPortTaken (p : Port) (s : State) : State × Result :=
  let held := s.claimHeld p
  let s := s.updPort p portReset
  (if held then ({ s with claim := .idle }).claimChanged (· == p) else s, .ok)

/-- Select rises with no clock edge since it fell: the frame is over and nothing else changes (R160). -/
def emptyFrame (s : State) (p : Port) (e : FrameEdge) : State :=
  if s.role p = .disabled then s
  else match e with
    | .selectFalls => s.ensureFrame p
    | .selectRises => s.updPort p fun q => { q with frame := none }

end State

/-- FRAME_DISCARD (R160). -/
def execFrameDiscard (p : Port) (e : FrameEdge) (s : State) : Host.Outcome State Fault Refusal :=
  .next (s.discardFrame p e)

/-- EMPTY_FRAME (R160). -/
def execEmptyFrame (p : Port) (e : FrameEdge) (s : State) : Host.Outcome State Fault Refusal :=
  .next (s.emptyFrame p e)

/-- DISABLED_PORT_FRAME (R157): the port ignores every frame. At a port that is not DISABLED there is no such event. -/
def execDisabledPortFrame (_p : Port) (_e : FrameEdge) (s : State) : Host.Outcome State Fault Refusal := .next s

/-- UNKNOWN_REQUEST (R160). A code that names a request is no such event. -/
def execUnknownRequest (p : Port) (e : FrameEdge) (code : Byte) (s : State) : Host.Outcome State Fault Refusal :=
  .next (if code ∈ requestCodes then s else s.writeRequest p e fun s => (s, .unknown))

/-- IDENTIFY (R164). -/
def execIdentify (p : Port) (m : ReadMoment) (s : State) : Host.Outcome State Fault Refusal :=
  .next (s.readRequest p m 0x10 [] fun s => (.ok, s.identifyReply))

/-- READ_PORT (R164). -/
def execReadPort (p : Port) (m : ReadMoment) (s : State) : Host.Outcome State Fault Refusal :=
  .next (s.readRequest p m 0x11 [] fun s => (.ok, s.portReply p))

/-- READ_SEAL_REPORT (R164). -/
def execReadSealReport (p : Port) (m : ReadMoment) (s : State) : Host.Outcome State Fault Refusal :=
  .next (s.readRequest p m 0x12 [] fun s => (.ok, s.sealReportReply))

/-- READ_TENANT (R165). -/
def execReadTenant (p : Port) (m : ReadMoment) (index : Byte) (s : State) : Host.Outcome State Fault Refusal :=
  .next (s.readRequest p m 0x13 [index] (State.tenantForm index))

/-- READ_COMPLIANCE (R165). -/
def execReadCompliance (p : Port) (m : ReadMoment) (s : State) : Host.Outcome State Fault Refusal :=
  .next (s.readRequest p m 0x14 [] State.complianceForm)

/-- READ_OUTLET (R166). -/
def execReadOutlet (p : Port) (m : ReadMoment) (outlet : BitVec 16) (s : State) : Host.Outcome State Fault Refusal :=
  .next (s.readRequest p m 0x15 (beBytes 2 outlet.toNat) (State.outletForm outlet))

/-- READ_MODULE (R166). -/
def execReadModule (p : Port) (m : ReadMoment) (module : Byte) (s : State) : Host.Outcome State Fault Refusal :=
  .next (s.readRequest p m 0x16 [module] (State.moduleForm module))

/-- READ_QUEUE (R166). -/
def execReadQueue (p : Port) (m : ReadMoment) (s : State) : Host.Outcome State Fault Refusal :=
  .next (s.readRequest p m 0x17 [] fun s => (.ok, s.queueReply))

/-- READ_CONFIG (R147, R151). -/
def execReadConfig (p : Port) (m : ReadMoment) (view : Byte) (lock : Bool) (s : State) :
    Host.Outcome State Fault Refusal :=
  .next ((s.sampleLock p lock).readRequest p m 0x18 [view] (State.configForm p view))

/-- CLEAR_NOTICES (R163). -/
def execClearNotices (p : Port) (e : FrameEdge) (notices : BitVec 16) (s : State) : Host.Outcome State Fault Refusal :=
  .next (s.writeRequest p e (State.clearNotices p notices))

/-- SET_ALERT_MASK (R163). -/
def execSetAlertMask (p : Port) (e : FrameEdge) (notices : BitVec 16) (s : State) : Host.Outcome State Fault Refusal :=
  .next (s.writeRequest p e (State.setAlertMask p notices))

/-- RESET_PORT (R167). -/
def execResetPort (p : Port) (e : FrameEdge) (s : State) : Host.Outcome State Fault Refusal :=
  .next (s.writeRequest p e (State.resetPortTaken p))

end Sys2Proof.Machine
end

