-- ==== Sys2Proof/Machine/Reset.lean ====
section
/-!
DEFINITION. Reset: PART_RESET and RESET_RELEASE (R140, R156 and the reset sentences of every chapter).
-/

namespace Sys2Proof.Machine

namespace State

/-- Every block at its reset state; a port's role stays fixed until reset is released (R156). The input lines keep
their levels, RESET now asserted, and the waiting commands stay (R140, R118, R159).
DEDUCED (log entry 9): ACTUATION_HOLD and CONFIG_LOCK are inputs, which a reset of the part does not move. -/
def partReset (s : State) : State :=
  { State.reset with
    pins := { s.pins with resetLine := true }
    ports := s.ports.imap fun _ q => { PortState.reset with role := q.role }
    pending := s.pending }

/-- Release of reset: each port takes the role of its straps (R156). Where RESET is not asserted there is no
release to take, and the roles stay.
DESIGN CHOICE (log entry 32): what reaches the part between the two finds it as after reset, every port acting DISABLED. -/
def resetRelease (s : State) (role1 role0 : BitVec 4) : State :=
  if s.pins.resetLine then
    { s with
      pins := { s.pins with resetLine := false }
      ports := s.ports.imap fun p q => { q with role := Role.ofStraps (role1.getLsbD p.val) (role0.getLsbD p.val) } }
  else s

end State

/-- PART_RESET (R140). -/
def execPartReset (s : State) : Host.Outcome State Fault Refusal := .next s.partReset

/-- RESET_RELEASE (R156). -/
def execResetRelease (role1 role0 : BitVec 4) (s : State) : Host.Outcome State Fault Refusal :=
  .next (s.resetRelease role1 role0)

end Sys2Proof.Machine
end

