-- ==== Sys2Proof/Machine/Dispatch.lean ====
section
/-!
DEFINITION. The meaning of every command: one arm per constructor of `Instr`.
-/

namespace Sys2Proof.Machine

/-- What a command does to everything but the queue of waiting commands. -/
def exec (i : Instr) (s : State) : Host.Outcome State Fault Refusal :=
  match i with
  | .partReset => Sys2Proof.Machine.execPartReset s
  | .resetRelease role1 role0 => Sys2Proof.Machine.execResetRelease role1 role0 s
  | .secondTick => Sys2Proof.Machine.execSecondTick s
  | .duePoint => Sys2Proof.Machine.execDuePoint s
  | .claimExpiry => Sys2Proof.Machine.execClaimExpiry s
  | .actuationHoldAssert => Sys2Proof.Machine.execActuationHoldAssert s
  | .actuationHoldRelease => Sys2Proof.Machine.execActuationHoldRelease s
  | .pollStart => Sys2Proof.Machine.execPollStart s
  | .pollAnswerReceived answer => Sys2Proof.Machine.execPollAnswerReceived answer s
  | .pollAnswerTimeout => Sys2Proof.Machine.execPollAnswerTimeout s
  | .moduleEntersLost m => Sys2Proof.Machine.execModuleEntersLost m s
  | .relayExchangeStart => Sys2Proof.Machine.execRelayExchangeStart s
  | .relayEchoReceived echo => Sys2Proof.Machine.execRelayEchoReceived echo s
  | .relayEchoTimeout => Sys2Proof.Machine.execRelayEchoTimeout s
  | .sweepAccounting => Sys2Proof.Machine.execSweepAccounting s
  | .entryTimeout o => Sys2Proof.Machine.execEntryTimeout o s
  | .scheduledCloseStart => Sys2Proof.Machine.execScheduledCloseStart s
  | .closeBuildRecord => Sys2Proof.Machine.execCloseBuildRecord s
  | .closeApply => Sys2Proof.Machine.execCloseApply s
  | .closeResetAccumulators => Sys2Proof.Machine.execCloseResetAccumulators s
  | .closeComplete => Sys2Proof.Machine.execCloseComplete s
  | .frameDiscard p e => Sys2Proof.Machine.execFrameDiscard p e s
  | .emptyFrame p e => Sys2Proof.Machine.execEmptyFrame p e s
  | .disabledPortFrame p e => Sys2Proof.Machine.execDisabledPortFrame p e s
  | .unknownRequest p e code => Sys2Proof.Machine.execUnknownRequest p e code s
  | .identify p m => Sys2Proof.Machine.execIdentify p m s
  | .readPort p m => Sys2Proof.Machine.execReadPort p m s
  | .readSealReport p m => Sys2Proof.Machine.execReadSealReport p m s
  | .readTenant p m index => Sys2Proof.Machine.execReadTenant p m index s
  | .readCompliance p m => Sys2Proof.Machine.execReadCompliance p m s
  | .readOutlet p m outlet => Sys2Proof.Machine.execReadOutlet p m outlet s
  | .readModule p m module => Sys2Proof.Machine.execReadModule p m module s
  | .readQueue p m => Sys2Proof.Machine.execReadQueue p m s
  | .readConfig p m view lock => Sys2Proof.Machine.execReadConfig p m view lock s
  | .clearNotices p e notices => Sys2Proof.Machine.execClearNotices p e notices s
  | .setAlertMask p e notices => Sys2Proof.Machine.execSetAlertMask p e notices s
  | .resetPort p e => Sys2Proof.Machine.execResetPort p e s
  | .subscribe p e mode => Sys2Proof.Machine.execSubscribe p e mode s
  | .readRecords p m lastSlotWhole => Sys2Proof.Machine.execReadRecords p m lastSlotWhole s
  | .recordSlotStreamed p => Sys2Proof.Machine.execRecordSlotStreamed p s
  | .ackRecords p e sequence => Sys2Proof.Machine.execAckRecords p e sequence s
  | .seekDelivery p e sequence => Sys2Proof.Machine.execSeekDelivery p e sequence s
  | .openAmendment p e => Sys2Proof.Machine.execOpenAmendment p e s
  | .takeoverAmendment p e => Sys2Proof.Machine.execTakeoverAmendment p e s
  | .recallSealed p e => Sys2Proof.Machine.execRecallSealed p e s
  | .discardAmendment p e => Sys2Proof.Machine.execDiscardAmendment p e s
  | .sealAmendment p e timing lock => Sys2Proof.Machine.execSealAmendment p e timing lock s
  | .stageTenant p e tenant state committed ceiling qmax restore shift dwell policy cls => Sys2Proof.Machine.execStageTenant p e tenant state committed ceiling qmax restore shift dwell policy cls s
  | .stageWindow p e slot operation first last tenant => Sys2Proof.Machine.execStageWindow p e slot operation first last tenant s
  | .stageShedList p e tenant count outlets => Sys2Proof.Machine.execStageShedList p e tenant count outlets s
  | .stageModule p e module used feed => Sys2Proof.Machine.execStageModule p e module used feed s
  | .stageTiming p e period length timeout => Sys2Proof.Machine.execStageTiming p e period length timeout s
  | .setOutlet p e outlet action => Sys2Proof.Machine.execSetOutlet p e outlet action s
  | .restoreTenant p e tenant => Sys2Proof.Machine.execRestoreTenant p e tenant s
  | .endInterval p e => Sys2Proof.Machine.execEndInterval p e s

end Sys2Proof.Machine
end

