-- ==== Sys2Proof/WellFormed.lean ====
section
/-!
DEFINITION. Well-formed commands: those that stand for an event of their own row. Every argument value of a request is
well-formed, since a request with an argument out of range is taken and refused (R160).
-/

namespace Sys2Proof

/-- A command is well-formed: an unknown request carries a code that names no request (R160), and a STAGE_SHED_LIST the
outlets that its count byte promises, none for a count above 16 (R168). -/
def Instr.wf : Instr → Bool
  | .unknownRequest _ _ code => !requestCodes.contains code
  | .stageShedList _ _ _ count outlets =>
    if count.toNat ≤ 16 then decide (outlets.length = count.toNat) else outlets.isEmpty
  | _ => true

end Sys2Proof
end

