-- ==== Sys2Proof/Safety.lean ====
section
/-!
DEFINITION. What claims speak of: the port and the frame moment of a command, the state in which a request has been
answered, the readings of a sweep and what they say of an outlet or an entry, and the invariants of the part. None of it runs.
-/

namespace Sys2Proof

/-- The port whose frame a command belongs to. -/
def Instr.port? : Instr → Option Port
  | .frameDiscard p _ => some p
  | .emptyFrame p _ => some p
  | .disabledPortFrame p _ => some p
  | .unknownRequest p _ _ => some p
  | .identify p _ => some p
  | .readPort p _ => some p
  | .readSealReport p _ => some p
  | .readTenant p _ _ => some p
  | .readCompliance p _ => some p
  | .readOutlet p _ _ => some p
  | .readModule p _ _ => some p
  | .readQueue p _ => some p
  | .readConfig p _ _ _ => some p
  | .clearNotices p _ _ => some p
  | .setAlertMask p _ _ => some p
  | .resetPort p _ => some p
  | .subscribe p _ _ => some p
  | .readRecords p _ _ => some p
  | .recordSlotStreamed p => some p
  | .ackRecords p _ _ => some p
  | .seekDelivery p _ _ => some p
  | .openAmendment p _ => some p
  | .takeoverAmendment p _ => some p
  | .recallSealed p _ => some p
  | .discardAmendment p _ => some p
  | .sealAmendment p _ _ _ => some p
  | .stageTenant p _ _ _ _ _ _ _ _ _ _ _ => some p
  | .stageWindow p _ _ _ _ _ _ => some p
  | .stageShedList p _ _ _ _ => some p
  | .stageModule p _ _ _ _ => some p
  | .stageTiming p _ _ _ _ => some p
  | .setOutlet p _ _ _ => some p
  | .restoreTenant p _ _ => some p
  | .endInterval p _ => some p
  | .partReset | .resetRelease _ _ | .secondTick | .duePoint | .claimExpiry | .actuationHoldAssert
  | .actuationHoldRelease | .pollStart | .pollAnswerReceived _ | .pollAnswerTimeout | .moduleEntersLost _
  | .relayExchangeStart | .relayEchoReceived _ | .relayEchoTimeout | .sweepAccounting | .entryTimeout _
  | .scheduledCloseStart | .closeBuildRecord | .closeApply | .closeResetAccumulators | .closeComplete => none

/-- The command stands for the fall of select at the beginning of a frame (section 5.4 of the introduction). -/
def Instr.atFall : Instr → Bool
  | .frameDiscard _ e => e == .selectFalls
  | .emptyFrame _ e => e == .selectFalls
  | .unknownRequest _ e _ => e == .selectFalls
  | .identify _ e => e == .selectFalls
  | .readPort _ e => e == .selectFalls
  | .readSealReport _ e => e == .selectFalls
  | .readTenant _ e _ => e == .selectFalls
  | .readCompliance _ e => e == .selectFalls
  | .readOutlet _ e _ => e == .selectFalls
  | .readModule _ e _ => e == .selectFalls
  | .readQueue _ e => e == .selectFalls
  | .readConfig _ e _ _ => e == .selectFalls
  | .clearNotices _ e _ => e == .selectFalls
  | .setAlertMask _ e _ => e == .selectFalls
  | .resetPort _ e => e == .selectFalls
  | .subscribe _ e _ => e == .selectFalls
  | .readRecords _ e _ => e == .selectFalls
  | .ackRecords _ e _ => e == .selectFalls
  | .seekDelivery _ e _ => e == .selectFalls
  | .openAmendment _ e => e == .selectFalls
  | .takeoverAmendment _ e => e == .selectFalls
  | .recallSealed _ e => e == .selectFalls
  | .discardAmendment _ e => e == .selectFalls
  | .sealAmendment _ e _ _ => e == .selectFalls
  | .stageTenant _ e _ _ _ _ _ _ _ _ _ _ => e == .selectFalls
  | .stageWindow _ e _ _ _ _ _ => e == .selectFalls
  | .stageShedList _ e _ _ _ => e == .selectFalls
  | .stageModule _ e _ _ _ => e == .selectFalls
  | .stageTiming _ e _ _ _ => e == .selectFalls
  | .setOutlet _ e _ _ => e == .selectFalls
  | .restoreTenant _ e _ => e == .selectFalls
  | .endInterval _ e => e == .selectFalls
  | .partReset | .resetRelease _ _ | .secondTick | .duePoint | .claimExpiry | .actuationHoldAssert
  | .actuationHoldRelease | .pollStart | .pollAnswerReceived _ | .pollAnswerTimeout | .moduleEntersLost _
  | .relayExchangeStart | .relayEchoReceived _ | .relayEchoTimeout | .sweepAccounting | .entryTimeout _
  | .scheduledCloseStart | .closeBuildRecord | .closeApply | .closeResetAccumulators | .closeComplete
  | .disabledPortFrame _ _ | .recordSlotStreamed _ => false

/-- The level of the CONFIG_LOCK line that a command carries (R151). -/
def Instr.lock? : Instr → Option Bool
  | .readConfig _ _ _ lock | .sealAmendment _ _ _ lock => some lock
  | _ => none

namespace Machine

/-! ### Answered requests (R158, R160, R161) -/

namespace State

/-- The status byte of the frame that port `p` has in progress, or of one that begins now (R161). -/
def shownStatus (s : State) (p : Port) : Byte :=
  match (s.ports.get p).frame with
  | some _ => (s.ports.get p).status
  | none => s.statusByte p

/-- The response bytes of the frame that port `p` has in progress; a frame that begins now has none yet. -/
def shownReply (s : State) (p : Port) : List Byte :=
  match (s.ports.get p).frame with
  | some _ => (s.ports.get p).reply
  | none => []

/-- The state in which port `p`'s request has been answered `r` with the port's own record changed by `f`: the frame is
over, the last result is `r`, no other port is changed, and an OK answer to the claimant restarts the claim's idle timer
(R144, R161). -/
def answer (s : State) (p : Port) (r : Result) (f : PortState → PortState) : State :=
  { s with
    ports := s.ports.modify p fun q =>
      { f q with result := r, frame := none, status := s.shownStatus p, reply := s.shownReply p }
    claim :=
      match s.claim with
      | .opened q n c => .opened q (if r = .ok ∧ q = p then 0 else n) c
      | k => k }

/-- Port `p`'s request was refused with `r`: nothing but the port's last result is changed (R158, R160). -/
def refuse (s : State) (p : Port) (r : Result) : State := s.answer p r id

/-- Port `p`'s read was answered: `bytes` is its response, clocked out after the fixed bytes (R159). -/
def answerRead (s : State) (p : Port) (r : Result) (bytes : List Byte) : State :=
  let t := s.answer p r id
  { t with ports := t.ports.modify p fun q => { q with reply := bytes } }

/-- The state with the CONFIG_LOCK line at level `lock` (R151). -/
def lockAt (s : State) (lock : Bool) : State := { s with pins := { s.pins with configLock := lock } }

/-- Notice `n` joined to the notice sets of the ports that `who` names, DISABLED ports passed over (R157, R162). -/
def notify (s : State) (n : Notice) (who : Port → Bool) : State :=
  { s with
    ports := s.ports.imap fun p q =>
      if who p && !(s.role p == .disabled) then { q with notices := q.notices ||| n.bit } else q }

/-- The facility ports other than `p` (R142). -/
def otherFacility (s : State) (p : Port) (q : Port) : Bool := s.role q == .facility && !(q == p)

end State

/-! ### The readings of a sweep (R30 to R34, R47 to R50, R103, R104) -/

/-- What a sweep's accounting finds for an outlet: a good reading, a missing one, or none (R30 to R32). -/
inductive Reading where
  | good (b : Block)
  | missing
  | none
  deriving DecidableEq, Repr

/-- The position that a good reading reports (R30). -/
def Reading.position? : Reading → Option Relay
  | .good b => some (if b.opened then .opened else .closed)
  | _ => Option.none

/-- What one reading of an outlet with record `x` adds to its owner's accumulators `a`, on feed `f` at sweep period `t`:
nothing without a baseline (R46), the delta less the pending estimate where it is plausible (R48), p × t and VOID where it
is not (R49), power × t as an estimate where the reading is missing (R50). -/
def Outlet.credited (x : Outlet) (f : Feed) (t : Nat) (a : EnergyAcc) : Reading → EnergyAcc
  | .good b =>
    match x.baseline with
    | some baseline =>
      let delta := (b.counter - baseline).toNat
      let span := x.gap + t
      let e : Int := delta - x.estimate
      if span ≤ 65535 ∧ delta ≤ 16384 * span then
        if 0 < x.estimate then (a.addEnergy f e).addCorrection e else a.addEnergy f e
      else { (a.addEnergy f (b.power * t : Nat)).addEstimated (b.power * t : Nat) with void := true }
    | none => a
  | .missing =>
    if x.baseline.isSome then (a.addEnergy f (x.power * t : Nat)).addEstimated (x.power * t : Nat) else a
  | .none => a

/-- The reading of an outlet with record `x` is void: good, with an implausible delta (R47, R49). -/
def Outlet.voided (x : Outlet) (t : Nat) : Reading → Prop
  | .good b => ∃ baseline, x.baseline = some baseline
      ∧ (65535 < x.gap + t ∨ 16384 * (x.gap + t) < (b.counter - baseline).toNat)
  | _ => False

namespace State

/-- The reading of outlet `o` in the accounting of sweep `w` (R30 to R32). -/
def readingOf (s : State) (w : Sweep) (o : OutletId) : Reading :=
  let m := moduleOfOutlet o
  if s.used m = true ∧ (w.lastPoll.get m).isSome = true then
    match w.capture.get m with
    | some a => if (a.blocks.get (channelOfOutlet o)).valid then .good (a.blocks.get (channelOfOutlet o)) else .missing
    | none => .missing
  else .none

/-- The accounting of sweep `w` observes entry `e`: the last poll of its used module began after its issue point (R103). -/
def observed (s : State) (w : Sweep) (e : Entry) : Bool :=
  match e.state, w.lastPoll.get (moduleOfOutlet e.outlet) with
  | .issued _ point, some began => s.used (moduleOfOutlet e.outlet) && decide (point < began)
  | _, _ => false

/-- The accounting of sweep `w` confirms entry `e` (R103). -/
def confirmed (s : State) (w : Sweep) (e : Entry) : Bool :=
  s.observed w e && (s.readingOf w e.outlet).position? == some e.action.position

/-- The accounting of sweep `w` is the third to observe entry `e` without confirming it (R104). -/
def timedOut (s : State) (w : Sweep) (e : Entry) : Bool :=
  s.observed w e && !s.confirmed w e && decide (2 ≤ e.state.since)

/-- Entry `e` after an accounting of sweep `w` in which it does not leave: one more sweep since issue where it is observed
(R104). -/
def aged (s : State) (w : Sweep) (e : Entry) : Entry :=
  match e.state with
  | .issued n point => if s.observed w e then { e with state := .issued (n + 1) point } else e
  | .pending => e

/-- The accounting of sweep `w` finds outlet `o` closed in a shed stack, with no entry of its own: it leaves the stack by
the foreign rule (R34). -/
def foreignClosed (s : State) (w : Sweep) (o : OutletId) : Bool :=
  s.queue.all (fun e => e.outlet != o) && (s.outlets.get o).cause == .shed
    && (s.readingOf w o).position? == some .closed

/-- The step of tenant `i`'s own that the accounting of sweep `w` confirms (R86, R87). -/
def stepConfirmed (s : State) (w : Sweep) (i : TenantId) : Option Entry :=
  s.queue.find? fun e => e.ofTenant i && e.stale == .clear && s.confirmed w e

end State

/-! ### Invariants -/

/-- Every slot of the ring's store is numbered below 2048, listed once in rising order, and holds 64 bytes; the write
position is a slot number (R126, R170). -/
def State.ringSound (s : State) : Prop :=
  slotsWf s.ring.slots = true ∧ (∀ x ∈ s.ring.slots, x.2.length = 64) ∧ s.ring.writePos < 2048

/-- The actuation queue holds at most 32 entries, at most one per outlet and one per tenant, all of used modules; the
outlets of unused modules hold their initial values and stand in no stack (R96, R29, R37). -/
def State.queueSound (s : State) : Prop :=
  s.queue.length ≤ 32 ∧ (s.queue.map (·.outlet)).Nodup ∧ (∀ i, s.queue.countP (·.ofTenant i) ≤ 1)
    ∧ (∀ e ∈ s.queue, s.used (moduleOfOutlet e.outlet) = true)
    ∧ (∀ o, s.used (moduleOfOutlet o) = false → s.outlets.get o = .initial)
    ∧ (∀ i, ∀ o ∈ (s.live.get i).stack, s.used (moduleOfOutlet o) = true)

/-- A DISABLED port holds nothing; under RESET every port acts DISABLED (log entry 32); a claimant is a facility port
(R157, R145). -/
def State.portsSound (s : State) : Prop :=
  (∀ p, s.role p = .disabled →
      (s.ports.get p).notices = 0 ∧ (s.ports.get p).mask = 0 ∧ (s.ports.get p).delivery = .unsubscribed
        ∧ (s.ports.get p).frame = none)
    ∧ (s.pins.resetLine = true → ∀ p, s.role p = .disabled)
    ∧ (∀ p n c, s.claim = .opened p n c → s.role p = .facility)

/-- The attribution map is the one derived from the committed window table (R43). -/
def State.attributionSound (s : State) : Prop := s.attribution = attributionOf s.committed.windows

/-- A VACANT tenant holds the vacant live part, no tenant has two queue entries, and a tenant's step in flight is its
queue entry that no vacating has made stale (R1, R15, R80, R96 to R98). -/
def State.stepsSound (s : State) : Prop :=
  (∀ i, (s.contract i).active = false → s.live.get i = .vacant)
    ∧ (∀ i, s.queue.countP (·.ofTenant i) ≤ 1)
    ∧ (∀ i o a, (s.live.get i).inFlight = some (o, a) ↔
        ∃ e ∈ s.queue, e.origin = .tenant i ∧ e.outlet = o ∧ e.action = a ∧ e.stale ≠ .vacated)

/-- What a queue entry takes its outlet's cause to be (R77, R81, R84, R89, R92). -/
def State.entrySound (s : State) (e : Entry) : Prop :=
  match e.origin with
  | .port _ => (s.outlets.get e.outlet).cause ≠ .shed
  | .tenant i =>
    if e.stale = .clear then
      match e.action with
      | .opening => (s.outlets.get e.outlet).cause = .none
      | .closing => e.outlet ∈ (s.live.get i).stack
    else (s.outlets.get e.outlet).cause ≠ .shed

/-- The outlets of cause SHED are exactly those in the shed stacks, each in one place of one stack (R76, R77). -/
def State.stacksSound (s : State) : Prop :=
  s.stepsSound ∧ (s.queue.map (·.outlet)).Nodup ∧ (∀ e ∈ s.queue, s.entrySound e)
    ∧ (∀ i, (s.live.get i).stack.Nodup)
    ∧ (∀ i j o, o ∈ (s.live.get i).stack → o ∈ (s.live.get j).stack → i = j)
    ∧ (∀ o, (s.outlets.get o).cause = .shed ↔ ∃ i, o ∈ (s.live.get i).stack)

/-- An energy accumulator set within the ranges of Table 3-1. -/
def EnergyAcc.inRange (a : EnergyAcc) : Prop :=
  (-(2 ^ 47) ≤ a.energyA ∧ a.energyA < 2 ^ 47) ∧ (-(2 ^ 47) ≤ a.energyB ∧ a.energyB < 2 ^ 47)
    ∧ (0 ≤ a.estimated ∧ a.estimated < 2 ^ 48) ∧ (-(2 ^ 47) ≤ a.correction ∧ a.correction < 2 ^ 47)

/-- A tenant's interval accumulators within their ranges (R68, R69, R78). -/
def Accumulators.inRange (a : Accumulators) : Prop :=
  a.energy.inRange ∧ a.secWithin < 2 ^ 32 ∧ a.secBurst < 2 ^ 32 ∧ a.secExhausted < 2 ^ 32 ∧ a.secOver < 2 ^ 32
    ∧ a.peak ≤ 6291072 ∧ a.shedSteps ≤ 65535 ∧ a.restoreSteps ≤ 65535 ∧ a.deferredSteps ≤ 65535

/-- Outlet records, sweep captures and module records within their ranges (Table 2-1, Table 2-3, R172). -/
def State.readingsInRange (s : State) : Prop :=
  (∀ o, (s.outlets.get o).power ≤ 16383 ∧ (s.outlets.get o).estimate < 2 ^ 40 ∧ (s.outlets.get o).gap ≤ 65535)
    ∧ (∀ w, s.sweep = some w → ∀ m a, w.capture.get m = some a → ∀ c, (a.blocks.get c).valid = true →
        (a.blocks.get c).power ≤ 16383)
    ∧ (∀ m, (s.modules.get m).misses ≤ 255)

/-- Live parts and accumulators within their ranges (R58, R60, R64, R78, Table 3-1). -/
def State.accrualsInRange (s : State) : Prop :=
  s.readingsInRange
    ∧ (∀ i, (s.live.get i).drawA + (s.live.get i).drawB ≤ 6291072 ∧ (s.live.get i).demand ≤ 6291072
        ∧ (s.live.get i).sinceStep ≤ 65535)
    ∧ (∀ i, (s.live.get i).credit ≤ if (s.contract i).active then (s.contract i).qmax else 0)
    ∧ (∀ i, (s.accruals.get i).inRange) ∧ s.house.inRange

/-- Counts held within their ranges: sweeps since issue, extension count, skipped counts (Table 6-1, Table 7-1, Table 8-1). -/
def State.countsInRange (s : State) : Prop :=
  (∀ e ∈ s.queue, e.state.since ≤ 2) ∧ s.closer.extensions ≤ 255 ∧ (∀ p, (s.ports.get p).skipped ≤ 65535)

/-- A contract within the ranges of Table 1-1. -/
def Contract.inRange (k : Contract) : Prop :=
  (1 ≤ k.committed ∧ k.committed ≤ 4000000) ∧ (1 ≤ k.ceiling ∧ k.ceiling ≤ 4000000) ∧ k.qmax ≤ 4000000000
    ∧ k.restore ≤ 4000000000 ∧ k.shift ≤ 6 ∧ 1 ≤ k.dwell ∧ k.dwell ≤ 255

/-- Part timing within the ranges of Table 9-2. -/
def Timing.inRange (t : Timing) : Prop :=
  (1 ≤ t.period ∧ t.period ≤ 10) ∧ (60 ≤ t.length ∧ t.length ≤ 3600) ∧ 5 ≤ t.timeout ∧ t.timeout ≤ 255

/-- A configuration that staging can write: every field in its range, every list of at most 16 outlets (R2, R73, R146). -/
def Configuration.inRange (c : Configuration) : Prop :=
  (∀ i, (c.contracts.get i).inRange) ∧ (∀ i, (c.lists.get i).length ≤ 16) ∧ c.timing.inRange

/-- Shadows hold what staging can write; the sealed set, the taken set and the committed configuration have passed
validation too (R141, R148 to R150). -/
def State.configurationsSound (s : State) : Prop :=
  s.shadowCopy.inRange ∧ s.shadowCopy.validate = none
    ∧ (∀ p n c, s.claim = .opened p n c → c.inRange)
    ∧ (∀ c, s.claim = .sealed c → c.inRange ∧ c.validate = none)
    ∧ (∀ k c, s.closer.close = .closing k → k.taken = some c → c.inRange ∧ c.validate = none)

/-- An UNCONFIGURED part is as reset left it: the empty configuration, no seconds, no sweep, no interval, no entry, no
record (R17, R18, R111, R112). -/
def State.unconfiguredSound (s : State) : Prop :=
  s.run = .unconfigured →
    s.committed = .empty ∧ s.seconds = 0 ∧ s.nextDue = none ∧ s.sweep = none ∧ s.late = false ∧ s.queue = []
      ∧ s.closer = .reset ∧ s.ring = .empty

end Machine
end Sys2Proof
end

