-- ==== Sys2Proof/Certificates/Slice0/Obligations.lean ====
section
/-!
DEFINITION. The statements for the provers, in the order of OBLIGATIONS.json: the machine and its invariants, the
timebase, the outlet link, the accounting, the close, the frames and reads, delivery, the amendment unit, curtailment.
-/

open Sys2Proof Sys2Proof.Machine

/-! ### The machine -/

/-- A step runs the command at the front of the queue on the state with the queue's rest, and idles on an empty queue
(log entry 2). -/
def Obligations.StepRunsFrontCommand : Prop :=
  (∀ (c : Instr) (rest : List Instr) (s : State),
      step { s with pending := c :: rest } = exec c { s with pending := rest })
    ∧ ∀ s : State, s.pending = [] → step s = .next s

/-- Every command completes in every state with a next state, and leaves the queue of waiting commands as it was. That a
command whose event cannot occur completes and changes nothing, and that PART_RESET keeps the waiting commands, are the
model's choices (log entries 1 and 9). -/
def Obligations.EveryCommandCompletesAndKeepsPending : Prop :=
  ∀ (c : Instr) (s : State), ∃ t, exec c s = .next t ∧ t.pending = s.pending

/-- Right after reset: UNCONFIGURED, nothing counted, due, swept, queued, recorded or claimed; every module, outlet,
tenant, accrual and port at the reset values of its table. -/
def Obligations.ResetValues : Prop :=
  State.reset.run = .unconfigured ∧ State.reset.seconds = 0 ∧ State.reset.nextDue = none ∧ State.reset.late = false
    ∧ State.reset.sweep = none ∧ State.reset.link.exchange = none ∧ State.reset.queue = []
    ∧ (∀ m, State.reset.modules.get m = { state := .unused, misses := 0, feedPresent := false, moduleFault := false }
        ∧ State.reset.used m = false ∧ State.reset.feed m = .a)
    ∧ (∀ o, State.reset.outlets.get o =
          { power := 0, baseline := none, estimate := 0, gap := 0, relay := .unknown, cause := .none, fault := false }
        ∧ State.reset.attribution.get o = none)
    ∧ (∀ i, State.reset.contract i =
          { active := false, committed := 1, ceiling := 1, qmax := 0, restore := 0, shift := 0, dwell := 1,
            policy := .report, cls := .paired }
        ∧ State.reset.shedList i = [] ∧ State.reset.accruals.get i = .zero
        ∧ State.reset.live.get i =
          { drawA := 0, drawB := 0, demand := 0, zone := .within, credit := 0, curtailment := .clear, stack := [],
            inFlight := none, sinceStep := 0 })
    ∧ (∀ n, State.reset.committed.windows.get n = none) ∧ State.reset.house = .zero
    ∧ State.reset.committed.timing = { period := 1, length := 900, timeout := 30 }
    ∧ State.reset.closer =
      { sequence := 0, startSecond := 0, counted := 0, target := 0, extensions := 0, noteEstimates := false,
        noteOverrun := false, noteHold := false, heldHold := false, generation := 0, close := .idle }
    ∧ (∀ n, readSlot State.reset.ring.slots n = none) ∧ State.reset.ring.records = [] ∧ State.reset.ring.writePos = 0
    ∧ State.reset.claim = .idle ∧ State.reset.report = { check := 0, item := 0 }
    ∧ ∀ p, (State.reset.ports.get p).result = .ok ∧ (State.reset.ports.get p).notices = 0
        ∧ (State.reset.ports.get p).mask = 0 ∧ (State.reset.ports.get p).delivery = .unsubscribed
        ∧ (State.reset.ports.get p).skipped = 0

/-- The reset state meets every invariant of Sys2Proof/Safety.lean. -/
def Obligations.ResetMeetsInvariants : Prop :=
  State.reset.ringSound ∧ State.reset.queueSound ∧ State.reset.portsSound ∧ State.reset.attributionSound
    ∧ State.reset.stacksSound ∧ State.reset.accrualsInRange ∧ State.reset.countsInRange
    ∧ State.reset.configurationsSound ∧ State.reset.unconfiguredSound

/-! ### Invariants that every step keeps -/

/-- The ring's store keeps its canonical form, its slots hold 64 bytes, and the write position stays a slot number. -/
def Obligations.StepKeepsRingStore : Prop :=
  ∀ s t : State, s.ringSound → step s = .next t → t.ringSound

/-- The actuation queue keeps its bounds of R96, and unused modules keep untouched outlets. -/
def Obligations.StepKeepsQueueDiscipline : Prop :=
  ∀ s t : State, s.queueSound → step s = .next t → t.queueSound

/-- DISABLED ports go on holding nothing, RESET goes on holding every port DISABLED, and the claimant stays a facility
port. That every port acts DISABLED while RESET is asserted is the model's choice (log entries 8 and 32). -/
def Obligations.StepKeepsPortDiscipline : Prop :=
  ∀ s t : State, s.portsSound → step s = .next t → t.portsSound

/-- A tenant's step in flight stays the tenant's one live queue entry, and VACANT tenants keep the vacant live part. -/
def Obligations.StepKeepsStepsInFlight : Prop :=
  ∀ s t : State, s.stepsSound → step s = .next t → t.stepsSound

/-- The outlets of cause SHED stay exactly those that stand in the shed stacks, each in one place of one stack. -/
def Obligations.StepKeepsShedCausesInStacks : Prop :=
  ∀ s t : State, s.stacksSound → step s = .next t → t.stacksSound

/-- Readings, draws, demands, credits and accumulators stay within the ranges the spec's tables give them. Sweeps
since issue, the extension count and the skipped counts stay within their ranges. -/
def Obligations.StepKeepsAccrualAndCountRanges : Prop :=
  (∀ s t : State, s.accrualsInRange → step s = .next t → t.accrualsInRange)
  ∧ (∀ s t : State, s.countsInRange → step s = .next t → t.countsInRange)

/-- Shadows stay in range, and the committed configuration, the sealed set and the taken set stay validated. The
attribution map stays the one derived from the committed window table. -/
def Obligations.StepKeepsConfigurationsValidAndMapped : Prop :=
  (∀ s t : State, s.configurationsSound → step s = .next t → t.configurationsSound)
  ∧ (∀ s t : State, s.attributionSound → step s = .next t → t.attributionSound)

/-- While the part is UNCONFIGURED nothing counts, no sweep falls due, no interval is open and the ring is empty. -/
def Obligations.StepKeepsUnconfiguredPart : Prop :=
  ∀ s t : State, s.unconfiguredSound → step s = .next t → t.unconfiguredSound

/-- No command but PART_RESET takes an available record out of the ring while a port holds it. The drops of a close
stop as soon as its room is made, drop no held record, keep the order of the rest, and make the room wherever
dropping every releasable record ahead of the first held one would. -/
def Obligations.HeldRecordsStayInRing : Prop :=
  (∀ (c : Instr) (s t : State) (r : Rec), c ≠ .partReset → r ∈ s.ring.records → s.held r.sequence = true →
      exec c s = .next t → r ∈ t.ring.records)
  ∧ (∀ (held : Word → Bool) (need free : Nat) (records : List Rec),
        let (gone, stay) := dropFor held need free records
        records = gone ++ stay ∧ (∀ r ∈ gone, held r.sequence = false)
          ∧ (∀ front r, gone = front ++ [r] → free + (front.map (·.length)).sum < need)
          ∧ (need ≤ free + ((records.takeWhile fun r => !held r.sequence).map (·.length)).sum →
              need ≤ free + (gone.map (·.length)).sum))

/-- A frame of a port that is not a facility port, nor the claimant, changes nothing but that port's own record and
the CONFIG_LOCK level it carries: no contract, outlet, queue, ring, claim or other port. -/
def Obligations.OtherRolesChangeOnlyTheirPort : Prop :=
  ∀ (c : Instr) (p : Port) (s t : State), c.port? = some p → s.role p ≠ .facility →
    (∀ n k, s.claim ≠ .opened p n k) → exec c s = .next t →
    t = { s with ports := s.ports.set p (t.ports.get p), pins := t.pins }
      ∧ t.pins = { s.pins with configLock := t.pins.configLock } ∧ t.role p = s.role p

/-! ### Reset, timebase, pins -/

/-- PART_RESET leaves the reset state; each port keeps its role, the input levels stay, RESET is now asserted, and the
waiting commands stay (the levels and the waiting commands are the model's choice, log entry 9). RESET_RELEASE gives each
port the role of its strap pair, PnROLE1 then PnROLE0, and changes nothing else; where RESET is not asserted it changes
nothing (log entry 1). -/
def Obligations.ResetAndReleaseReturnPortsToStraps : Prop :=
  (∀ s : State, exec .partReset s =
      .next { State.reset with
        pins := { s.pins with resetLine := true }
        ports := .tabulate 4 fun p => { State.reset.ports.get p with role := (s.ports.get p).role }
        pending := s.pending })
  ∧ (∀ (role1 role0 : BitVec 4) (s : State),
        exec (.resetRelease role1 role0) s = .next
          (if s.pins.resetLine = true then
            { s with
              pins := { s.pins with resetLine := false }
              ports := s.ports.imap fun p q =>
                { q with
                  role :=
                    if role1.getLsbD p.val = true then
                      if role0.getLsbD p.val = true then .facility else .collector
                    else if role0.getLsbD p.val = true then .viewer else .disabled } }
          else s))

/-- SECOND_TICK where no due point stands: the seconds count of a RUNNING part rises by 1, modulo 2^32; the idle timer
of an OPEN claim rises by 1, and where it reaches the claim timeout the claim expires; nothing else changes.
SECOND_TICK where a due point stands passes the due point first (the model's choice, log entry 3). -/
def Obligations.TickCountsSecondAndTimesClaim : Prop :=
  (∀ s : State, s.nextDue ≠ some s.seconds →
      exec .secondTick s = .next
        { (match s.claim with
            | .opened p n c =>
              if s.committed.timing.timeout ≤ n + 1 then
                ({ s with claim := .idle }.notify .claimLost fun q => q == p).notify .claimChanged (s.otherFacility p)
              else { s with claim := .opened p (n + 1) c }
            | _ => s) with
          seconds := if s.run = .running then s.seconds + 1 else s.seconds })
  ∧ (∀ s d : State, s.nextDue = some s.seconds → s.committed.timing.inRange → exec .duePoint s = .next d →
        exec .secondTick s = exec .secondTick d)

/-- DUE_POINT at the next-due second moves the schedule on by t and starts a sweep, or where one runs overruns: the late
flag is set and SWEEP_OVERRUN is raised in every port. At any other second it changes nothing (log entry 1). That a
sweep runs, and is overrun, from its start on, before its first poll has the link, is the model's choice (log entry
12). -/
def Obligations.DuePointStartsOrOverrunsSweep : Prop :=
  ∀ s : State,
    (s.nextDue = some s.seconds →
      let d : State := { s with nextDue := some (s.seconds + BitVec.ofNat 32 s.committed.timing.period) }
      exec .duePoint s = .next
        (match s.sweep with
          | none =>
            { d with
              sweep := some
                { owed := false, next := 0, retry := none, finished := decide (∀ m, s.used m = false),
                  lastPoll := .fill 16 none, capture := .fill 16 none } }
          | some _ => ({ d with late := true }).notify .sweepOverrun fun _ => true))
    ∧ (s.nextDue ≠ some s.seconds → exec .duePoint s = .next s)

/-- CLAIM_EXPIRY is the second at which the idle timer reaches the claim timeout: the claim becomes IDLE, its claimant
holds CLAIM_LOST and every other facility port CLAIM_CHANGED. Where the next second is not that one it changes nothing
(log entry 4). -/
def Obligations.ClaimExpiryDropsClaim : Prop :=
  ∀ (s : State) (p : Port) (n : Nat) (c : Configuration), s.claim = .opened p n c → s.role p = .facility →
    (s.committed.timing.timeout ≤ n + 1 →
      ∃ t, exec .claimExpiry s = .next t ∧ exec .secondTick s = .next t ∧ t.claim = .idle
        ∧ Notice.claimLost.bit &&& (t.ports.get p).notices = Notice.claimLost.bit
        ∧ ∀ q, q ≠ p → s.role q = .facility →
          Notice.claimChanged.bit &&& (t.ports.get q).notices = Notice.claimChanged.bit)
    ∧ (n + 1 < s.committed.timing.timeout → exec .claimExpiry s = .next s)

/-- An assertion of ACTUATION_HOLD notes HOLD_SEEN for the open interval of a RUNNING part, or holds it while a close is
in flight, and changes nothing else; a release changes only the level. With the line asserted already the assertion, and
with it released already the release, changes nothing at all (the model's choice, log entry 1). -/
def Obligations.ActuationHoldNotesHoldSeen : Prop :=
  ∀ s : State,
    exec .actuationHoldAssert s = .next
      (if s.pins.actuationHold = true then s
      else
        { s with
          pins := { s.pins with actuationHold := true }
          closer :=
            if s.run = .unconfigured then s.closer
            else if s.closing = true then { s.closer with heldHold := true }
            else { s.closer with noteHold := true } })
    ∧ exec .actuationHoldRelease s = .next { s with pins := { s.pins with actuationHold := false } }

/-! ### The outlet link -/

/-- POLL_START with the link free and no relay exchange to place first: the owed retry of a used module takes the
link, else the first poll of the lowest used index not yet reached, else the polls are finished and the idle gap
begins. POLL_START changes nothing with no sweep, with its polls finished, with an exchange on the link, or with a
relay exchange to be placed first (log entries 1 and 13). When the sweep comes to an index, the moment counter, and that an entry
offered in the poll gap stays offered in the idle gap it turns into, are the model's (log entries 14, 15 and 40). -/
def Obligations.PollStartWalksUsedModules : Prop :=
  (∀ (s : State) (w : Sweep), s.sweep = some w → w.finished = false → s.link.exchange = none → s.offered? = none →
      (∀ m, w.retry = some m → s.used m = true →
        exec .pollStart s = .next
          { s with
            sweep := some { w with retry := none, lastPoll := w.lastPoll.set m (some (s.link.moment + 1)) }
            link := { s.link with
              exchange := some (.poll m true false), sent := withCrc [BitVec.ofNat 8 m.val, 0x01]
              moment := s.link.moment + 1 } })
      ∧ (∀ m, (∀ r, w.retry = some r → s.used r = false) → w.next ≤ m.val → s.used m = true →
          (∀ k, w.next ≤ k.val → k < m → s.used k = false) →
          exec .pollStart s = .next
            { s with
              sweep := some
                { w with
                  next := m.val + 1, retry := none, lastPoll := w.lastPoll.set m (some (s.link.moment + 1)) }
              link := { s.link with
                exchange := some (.poll m false false), sent := withCrc [BitVec.ofNat 8 m.val, 0x01]
                moment := s.link.moment + 1 } })
      ∧ ((∀ r, w.retry = some r → s.used r = false) → (∀ k, w.next ≤ k.val → s.used k = false) →
          exec .pollStart s = .next
            { s with
              sweep := some { w with next := 16, retry := none, finished := true }
              link := { s.link with gap := .idle } }))
  ∧ (∀ s : State,
        (s.sweep = none ∨ (∃ w, s.sweep = some w ∧ w.finished = true) ∨ s.link.exchange ≠ none ∨ s.offered? ≠ none) →
        exec .pollStart s = .next s)

/-- A good answer makes its module PRESENT with no misses and the answer's flags, is held in the sweep's capture, raises
MODULE_BACK where the module was MISSED or LOST, and ends the exchange; nothing else changes. That the polls are
finished with the exchange after which no used module is left is the model's reading (log entry 14). -/
def Obligations.GoodAnswerMakesModulePresent : Prop :=
  ∀ (s : State) (w : Sweep) (m : ModuleId) (again : Bool) (bytes : List Byte),
    s.link.exchange = some (.poll m again false) → s.sweep = some w → s.used m = true → answerGood m bytes = true →
    let more := w.retry.isSome || (List.finRange 16).any fun k => decide (w.next ≤ k.val) && s.used k
    let w' := { w with capture := w.capture.set m (some (answerOf bytes)) }
    exec (.pollAnswerReceived bytes) s = .next
      { s with
        modules := s.modules.set m
          { state := .present, misses := 0, feedPresent := (answerOf bytes).feedPresent
            moduleFault := (answerOf bytes).moduleFault }
        ports :=
          if (s.modules.get m).state = .missed ∨ (s.modules.get m).state = .lost then
            (s.notify .moduleBack fun _ => true).ports
          else s.ports
        sweep := some (if more then w' else { w' with next := 16, finished := true })
        queue := s.queue.map fun e => { e with offered := false }
        link := { s.link with
          exchange := none, gap := if more then .poll 0 else .idle, moment := s.link.moment + 1 } }

/-- A failed first poll only owes its retry: no miss is counted and no notice is raised. An answer that is not good is
a failed poll, as is one that never comes. A failed retry raises the miss count, saturating at 255, and sets the
state by the table of R27; the status flags are kept. Short of LOST nothing else of the module or its outlets
changes, and no notice is raised. That only an answer that is not good or never comes ends a poll as failed, the
2 ms limits being outside the model, is log entry 30. -/
def Obligations.FailedPollOwesRetryThenCountsMiss : Prop :=
  (∀ (s : State) (w : Sweep) (m : ModuleId) (bytes : List Byte),
      s.link.exchange = some (.poll m false false) → s.sweep = some w → s.used m = true → answerGood m bytes = false →
      exec (.pollAnswerReceived bytes) s = exec .pollAnswerTimeout s
        ∧ exec .pollAnswerTimeout s = .next
          { s with
            sweep := some { w with retry := some m }
            queue := s.queue.map fun e => { e with offered := false }
            link := { s.link with exchange := none, gap := .poll 0, moment := s.link.moment + 1 } })
  ∧ (∀ (s : State) (m : ModuleId),
        s.link.exchange = some (.poll m true false) → s.used m = true → (s.modules.get m).state ≠ .unused →
        ((s.modules.get m).state = .lost ∨ (s.modules.get m).misses + 1 < 3) →
        ∃ t, exec .pollAnswerTimeout s = .next t
          ∧ t.modules = s.modules.set m
              { s.modules.get m with
                misses := min 255 ((s.modules.get m).misses + 1)
                state := if (s.modules.get m).state = .present then .missed else (s.modules.get m).state }
          ∧ t = { s with modules := t.modules, sweep := t.sweep, queue := t.queue, link := t.link }
          ∧ t.queue = s.queue.map (fun e => { e with offered := false }) ∧ t.link.exchange = none)

/-- MODULE_ENTERS_LOST at the retry whose failure makes the third miss in a row: the module is LOST, every queue entry
of its outlets leaves and clears its tenant's step in flight, its outlets' relays become UNKNOWN and nothing else
of the outlets changes, and MODULE_LOST is raised in every port. The retry's failure alone does the same.
MODULE_ENTERS_LOST changes nothing where no retry of that module is on the link (log entry 4), and the outcome of
a poll whose module an application made unused changes no module record, capture or notice. -/
def Obligations.ModuleEntersLostDropsItsEntries : Prop :=
  (∀ (s : State) (m : ModuleId),
      s.link.exchange = some (.poll m true false) → s.used m = true → 3 ≤ (s.modules.get m).misses + 1 →
      (s.modules.get m).state ≠ .unused → (s.modules.get m).state ≠ .lost →
      ∃ t, exec (.moduleEntersLost m) s = .next t ∧ exec .pollAnswerTimeout s = .next t
        ∧ t.modules = s.modules.set m
            { s.modules.get m with misses := min 255 ((s.modules.get m).misses + 1), state := .lost }
        ∧ t.queue = (s.queue.filter fun e => !(moduleOfOutlet e.outlet == m)).map (fun e => { e with offered := false })
        ∧ (∀ o, t.outlets.get o =
            if moduleOfOutlet o = m then { s.outlets.get o with relay := .unknown } else s.outlets.get o)
        ∧ (∀ i, t.live.get i =
            if s.queue.any (fun e => moduleOfOutlet e.outlet == m && e.ofTenant i) then
              { s.live.get i with inFlight := none }
            else s.live.get i)
        ∧ t.ports = (s.notify .moduleLost fun _ => true).ports
        ∧ t = { s with
            modules := t.modules, queue := t.queue, outlets := t.outlets, live := t.live, ports := t.ports
            sweep := t.sweep, link := t.link })
  ∧ ((∀ (s : State) (m : ModuleId), (∀ d, s.link.exchange ≠ some (.poll m true d)) →
          exec (.moduleEntersLost m) s = .next s)
        ∧ ∀ (s : State) (m : ModuleId) (again : Bool) (bytes : List Byte),
            s.link.exchange = some (.poll m again true) →
            ∃ t, exec (.pollAnswerReceived bytes) s = .next t ∧ exec .pollAnswerTimeout s = .next t
              ∧ t = { s with sweep := t.sweep, queue := t.queue, link := t.link }
              ∧ t.sweep.map (·.capture) = s.sweep.map (·.capture))

/-- RELAY_EXCHANGE_START gives the free link, in the idle gap outside a sweep's polls or in a poll gap with fewer than two
exchanges placed, to the first offerable entry in queue order: PENDING, ACTUATION_HOLD not asserted, its module PRESENT or
MISSED, not yet offered in this gap; the command frame is sent. The entry stays PENDING. With none to offer it changes
nothing: ACTUATION_HOLD asserted, an exchange on the link, no entry that may be offered, a poll gap with two exchanges
placed, or a sweep's polls in progress outside a poll gap. A good echo makes the live entry of its exchange ISSUED at this
issue point; an echo that is not good, one that never comes, or an entry that has left the queue meanwhile leaves
every entry as it was. Either way the exchange ends and nothing else changes. With no relay exchange on the link the two
ends change nothing (log entry 1). The issue point is the model's count of exchange beginnings and ends (log entry 15). -/
def Obligations.RelayExchangeOffersAndIssuesEntry : Prop :=
  (∀ s : State,
      (∀ (front back : List Entry) (e : Entry), s.queue = front ++ e :: back → (s.queue.map (·.outlet)).Nodup →
        (∀ x ∈ front, s.offerable x = false) → e.state = .pending → s.pins.actuationHold = false →
        ((s.modules.get (moduleOfOutlet e.outlet)).state = .present
          ∨ (s.modules.get (moduleOfOutlet e.outlet)).state = .missed) →
        e.offered = false → s.link.exchange = none →
        ((∃ n, s.link.gap = .poll n ∧ n < 2) ∨ s.link.gap = .idle ∧ ∀ w, s.sweep = some w → w.finished = true) →
        exec .relayExchangeStart s = .next
          { s with
            queue := front ++ { e with offered := true } :: back
            link := { s.link with
              exchange := some (.relay e.outlet e.action true)
              gap := match s.link.gap with | .poll n => .poll (n + 1) | .idle => .idle
              sent := withCrc [BitVec.ofNat 8 (e.outlet.val / 24), 0x02, BitVec.ofNat 8 (e.outlet.val % 24), e.action.code]
              moment := s.link.moment + 1 } })
      ∧ (s.pins.actuationHold = true → exec .relayExchangeStart s = .next s)
      ∧ (s.link.exchange ≠ none → exec .relayExchangeStart s = .next s)
      ∧ ((∀ e ∈ s.queue, e.state ≠ .pending ∨ e.offered = true
            ∨ ((s.modules.get (moduleOfOutlet e.outlet)).state ≠ .present
              ∧ (s.modules.get (moduleOfOutlet e.outlet)).state ≠ .missed)) →
        exec .relayExchangeStart s = .next s)
      ∧ (∀ n, s.link.gap = .poll n → 2 ≤ n → exec .relayExchangeStart s = .next s)
      ∧ (∀ w, s.link.gap = .idle → s.sweep = some w → w.finished = false → exec .relayExchangeStart s = .next s))
  ∧ (∀ (s : State) (o : OutletId) (a : Action) (live : Bool) (bytes : List Byte),
        s.link.exchange = some (.relay o a live) →
        exec (.relayEchoReceived bytes) s = .next
          { s with
            queue :=
              if echoGood o a bytes = true ∧ live = true then
                s.queue.map fun e => if e.outlet = o then { e with state := .issued 0 (s.link.moment + 1) } else e
              else s.queue
            link := { s.link with exchange := none, moment := s.link.moment + 1 } }
        ∧ exec .relayEchoTimeout s = .next
          { s with link := { s.link with exchange := none, moment := s.link.moment + 1 } })
  ∧ (∀ (s : State) (bytes : List Byte), (∀ o a live, s.link.exchange ≠ some (.relay o a live)) →
        exec (.relayEchoReceived bytes) s = .next s ∧ exec .relayEchoTimeout s = .next s)

/-! ### Sweep arithmetic -/

/-- The new smoothed demand lies between the old one and the draw, both included. For a shift from 1 to 6 the demand
rests exactly when the draw lies from 2^(k-1) below it to 2^(k-1) - 1 above it, and elsewhere moves toward the
draw by at least 1 W; with shift 0 it equals the draw. Under a constant draw it comes to rest within that band. -/
def Obligations.SmoothedDemandApproachesDraw : Prop :=
  (∀ k demand draw : Nat, k ≤ 6 →
      (demand ≤ draw → demand ≤ smooth k demand draw ∧ smooth k demand draw ≤ draw)
      ∧ (draw < demand → smooth k demand draw ≤ demand ∧ draw ≤ smooth k demand draw))
  ∧ ((∀ k demand draw : Nat, 1 ≤ k → k ≤ 6 →
          (smooth k demand draw = demand ↔ demand ≤ draw + 2 ^ (k - 1) ∧ draw + 1 ≤ demand + 2 ^ (k - 1))
          ∧ (demand + 2 ^ (k - 1) ≤ draw → demand < smooth k demand draw)
          ∧ (draw + 2 ^ (k - 1) < demand → smooth k demand draw < demand))
        ∧ ∀ demand draw : Nat, smooth 0 demand draw = draw)
  ∧ (∀ k demand draw : Nat, 1 ≤ k → k ≤ 6 →
        ∃ n, let rest := (fun d => smooth k d draw)^[n] demand
          smooth k rest draw = rest ∧ rest ≤ draw + 2 ^ (k - 1) ∧ draw + 1 ≤ rest + 2 ^ (k - 1))

/-- The energy of a good reading whose baseline is present (R47 to R49): a plausible delta credits delta less the
pending estimate to the owner's accumulator of the outlet's feed, and where that estimate was above 0 the same to
the correction; an implausible one credits p × t to that accumulator and to estimated, sets VOID, notes ESTIMATES
and raises CORRECTION_VOID. No other accrual, and nothing else, changes. An addition to an accumulator is taken
with saturation: the sum where it lies within the limits, else the limit it passes with SATURATED set; SATURATED
is never cleared, and the other accumulators and VOID are unchanged. SWEEP_ACCOUNTING credits each tenant, and the
house, with the readings of the outlets it owns, in outlet order and nothing else: also, where a reading is missing and
the baseline is present, power × t to that accumulator and to estimated. It notes ESTIMATES exactly where there was such
a reading or a void one, and raises CORRECTION_VOID in every port exactly where there was a void one. -/
def Obligations.GoodReadingCreditsEnergy : Prop :=
  (∀ (s : State) (o : OutletId) (x : Outlet) (baseline : Word) (b : Block),
      let delta := (b.counter - baseline).toNat
      let span := x.gap + s.committed.timing.period
      let feed := s.feed (moduleOfOutlet o)
      let credit (f : EnergyAcc → EnergyAcc) (u : State) : State :=
        match s.attribution.get o with
        | some i => { u with accruals := u.accruals.modify i fun a => { a with energy := f a.energy } }
        | none => { u with house := f u.house }
      (span ≤ 65535 → delta ≤ 16384 * span → x.estimate = 0 →
        s.creditGood o x baseline b = credit (fun a => a.addEnergy feed delta) s)
      ∧ (span ≤ 65535 → delta ≤ 16384 * span → 0 < x.estimate →
        s.creditGood o x baseline b =
          credit (fun a => (a.addEnergy feed ((delta : Int) - x.estimate)).addCorrection ((delta : Int) - x.estimate)) s)
      ∧ (65535 < span ∨ 16384 * span < delta →
        s.creditGood o x baseline b =
          credit
            (fun a =>
              { (a.addEnergy feed ((b.power * s.committed.timing.period : Nat) : Int)).addEstimated
                  ((b.power * s.committed.timing.period : Nat) : Int) with void := true })
            ({ s with closer := { s.closer with noteEstimates := true } }.notify .correctionVoid fun _ => true)))
  ∧ (∀ (a : EnergyAcc) (e : Int),
        a.addEnergy .a e =
          { a with
            energyA := max (-(2 ^ 47)) (min (2 ^ 47 - 1) (a.energyA + e))
            saturated := a.saturated || decide (a.energyA + e < -(2 ^ 47) ∨ 2 ^ 47 - 1 < a.energyA + e) }
        ∧ a.addEnergy .b e =
          { a with
            energyB := max (-(2 ^ 47)) (min (2 ^ 47 - 1) (a.energyB + e))
            saturated := a.saturated || decide (a.energyB + e < -(2 ^ 47) ∨ 2 ^ 47 - 1 < a.energyB + e) }
        ∧ a.addEstimated e =
          { a with
            estimated := max 0 (min (2 ^ 48 - 1) (a.estimated + e))
            saturated := a.saturated || decide (a.estimated + e < 0 ∨ 2 ^ 48 - 1 < a.estimated + e) }
        ∧ a.addCorrection e =
          { a with
            correction := max (-(2 ^ 47)) (min (2 ^ 47 - 1) (a.correction + e))
            saturated := a.saturated || decide (a.correction + e < -(2 ^ 47) ∨ 2 ^ 47 - 1 < a.correction + e) })
  ∧ (∀ (s : State) (w : Sweep), s.sweep = some w → w.finished = true → s.closer.close = .idle →
        let t := s.committed.timing.period
        let credit (owner : Option TenantId) (a : EnergyAcc) (o : OutletId) : EnergyAcc :=
          if s.attribution.get o = owner then
            (s.outlets.get o).credited (s.feed (moduleOfOutlet o)) t a (s.readingOf w o)
          else a
        ∃ u, exec .sweepAccounting s = .next u
          ∧ (∀ i, (u.accruals.get i).energy = (List.finRange 384).foldl (credit (some i)) (s.accruals.get i).energy)
          ∧ u.house = (List.finRange 384).foldl (credit none) s.house
          ∧ (u.closer.noteEstimates = true ↔ s.closer.noteEstimates = true
              ∨ ∃ o, (s.readingOf w o = .missing ∧ (s.outlets.get o).baseline ≠ none)
                ∨ (s.outlets.get o).voided t (s.readingOf w o))
          ∧ ∀ p, s.role p ≠ .disabled →
            ((u.ports.get p).notices.getLsbD 6 = true ↔ (s.ports.get p).notices.getLsbD 6 = true
              ∨ ∃ o, (s.outlets.get o).voided t (s.readingOf w o)))

/-! ### The accounting of a sweep -/

/-- SWEEP_ACCOUNTING changes nothing while the sweep's polls are unfinished, while a close is in flight, or with no sweep
(log entry 1); ENTRY_TIMEOUT and SCHEDULED_CLOSE_START then change nothing either (log entry 4). The accounting of a
finished sweep outside a close (a command of its own, log entry 5) counts it, makes the OVERRUN_SEEN note of a late sweep,
ends it, and starts the late sweep that is owed at once; where the count does not reach the close target no close starts.
The configuration, the modules, the ring, the claim and the timebase are unchanged, and so is the link, but for the entry
of a relay exchange on it, which may leave. -/
def Obligations.AccountingWaitsOrCountsSweep : Prop :=
  (∀ s : State,
      (s.sweep = none ∨ (∃ w, s.sweep = some w ∧ w.finished = false) ∨ s.closer.close ≠ .idle) →
      exec .sweepAccounting s = .next s ∧ (∀ o, exec (.entryTimeout o) s = .next s)
        ∧ exec .scheduledCloseStart s = .next s)
  ∧ (∀ (s : State) (w : Sweep), s.sweep = some w → w.finished = true → s.closer.close = .idle →
        s.closer.counted + 1 ≠ s.closer.target →
        ∃ t, exec .sweepAccounting s = .next t
          ∧ t.closer = { s.closer with
              counted := s.closer.counted + 1, noteOverrun := s.closer.noteOverrun || w.owed
              noteEstimates := t.closer.noteEstimates }
          ∧ t.sweep =
              (if s.late = true then
                some
                  { owed := true, next := 0, retry := none, finished := decide (∀ m, s.used m = false),
                    lastPoll := .fill 16 none, capture := .fill 16 none }
              else none)
          ∧ t.late = false
          ∧ t = { s with
              closer := t.closer, sweep := t.sweep, late := t.late, outlets := t.outlets, live := t.live
              accruals := t.accruals, house := t.house, queue := t.queue, link := t.link, ports := t.ports }
          ∧ t.link = { s.link with exchange := t.link.exchange })

/-- A good reading sets its outlet's power, baseline and relay and clears gap and pending estimate; a missing reading keeps
power, baseline and relay, and where the baseline is present raises the gap by t and the pending estimate by power × t,
each saturating; an outlet whose module was not polled in the sweep, or is unused, keeps all five. Of an outlet without a
queue entry the fault flag stays, and the cause follows a good reading by the foreign rule: found closed it becomes NONE,
found open from NONE it becomes FOREIGN, else it stays; one of cause SHED found closed leaves every shed stack. -/
def Obligations.AccountingAppliesReadings : Prop :=
  ∀ (s : State) (w : Sweep) (o : OutletId), s.sweep = some w → w.finished = true → s.closer.close = .idle →
    let m := moduleOfOutlet o
    let x := s.outlets.get o
    ∃ t, exec .sweepAccounting s = .next t
      ∧ let y := t.outlets.get o
        (∀ a, s.used m = true → (w.lastPoll.get m).isSome = true → w.capture.get m = some a →
          let b := a.blocks.get (channelOfOutlet o)
          b.valid = true →
          y.power = b.power ∧ y.baseline = some b.counter ∧ y.estimate = 0 ∧ y.gap = 0
            ∧ y.relay = if b.opened then .opened else .closed)
        ∧ (s.used m = true → (w.lastPoll.get m).isSome = true →
          (∀ a, w.capture.get m = some a → (a.blocks.get (channelOfOutlet o)).valid = false) →
          y.power = x.power ∧ y.baseline = x.baseline ∧ y.relay = x.relay
            ∧ y.gap = (if x.baseline.isSome then min 65535 (x.gap + s.committed.timing.period) else x.gap)
            ∧ y.estimate =
              if x.baseline.isSome then min (2 ^ 40 - 1) (x.estimate + x.power * s.committed.timing.period)
              else x.estimate)
        ∧ (s.used m = false ∨ w.lastPoll.get m = none →
          y.power = x.power ∧ y.baseline = x.baseline ∧ y.relay = x.relay ∧ y.gap = x.gap ∧ y.estimate = x.estimate)
        ∧ ((∀ e ∈ s.queue, e.outlet ≠ o) →
          y.fault = x.fault
          ∧ y.cause =
            (match (s.readingOf w o).position? with
            | some .closed => .none
            | some .opened => if x.cause = .none then .foreign else x.cause
            | _ => x.cause)
          ∧ (x.cause = .shed → (s.readingOf w o).position? = some .closed → ∀ i, o ∉ (t.live.get i).stack))

/-- An accounting sets each ACTIVE tenant's draw by feed from the outlets' powers, smooths its demand, refills or drains
its credit within 0 to Qmax, classifies its zone, and adds t to that zone's seconds and the demand to the peak.
The step decisions follow in tenant order, each on the queue that the readings and the lower tenants left: LIST_SPENT is
left where no shed is wanted; a step in flight or a stale entry decides nothing; RESTORING drains the top of the stack or
becomes CLEAR; a wanted shed takes the first candidate of the list, or with none becomes LIST_SPENT; else a restore takes
the top of the stack. A step joins the queue's tail, or meets a full queue and is counted as deferred (placed only within
the bounds of R96, log entry 25). That each decision follows its tenant's own sequence, and that a tenant whose entry times
out in an accounting decides in that same one, is the model's reading (log entries 33 and 35). The sweeps since last step rise, and TENANT_LIMIT is raised in every port exactly where
a tenant came to EXHAUSTED or OVER from WITHIN or BURST, or to LIST_SPENT. -/
def Obligations.AccountingSetsDemandZoneCredit : Prop :=
  (∀ (s : State) (w : Sweep) (i : TenantId), s.sweep = some w → w.finished = true → s.closer.close = .idle →
    (s.contract i).active = true →
    let k := s.contract i
    let t := s.committed.timing.period
    let before := s.live.get i
    ∃ u, exec .sweepAccounting s = .next u
      ∧ let l := u.live.get i
        let powerOn (f : Feed) (o : OutletId) : Nat :=
          if s.attribution.get o = some i ∧ s.used (moduleOfOutlet o) = true ∧ s.feed (moduleOfOutlet o) = f then
            (u.outlets.get o).power
          else 0
        l.drawA = ((List.finRange 384).map (powerOn .a)).sum
        ∧ l.drawB = ((List.finRange 384).map (powerOn .b)).sum
        ∧ l.demand = smooth k.shift before.demand (l.drawA + l.drawB)
        ∧ (l.demand ≤ k.committed → l.zone = .within
            ∧ l.credit = min k.qmax (before.credit + (k.committed - l.demand) * t))
        ∧ (k.committed < l.demand → l.credit = before.credit - (l.demand - k.committed) * t
            ∧ l.zone = if k.ceiling < l.demand then .over else if 0 < l.credit then .burst else .exhausted)
        ∧ (u.accruals.get i).peak = max (s.accruals.get i).peak l.demand
        ∧ (u.accruals.get i).secOver =
          (if l.zone = .over then min (2 ^ 32 - 1) ((s.accruals.get i).secOver + t) else (s.accruals.get i).secOver)
        ∧ (u.accruals.get i).secWithin =
          (if l.zone = .within then min (2 ^ 32 - 1) ((s.accruals.get i).secWithin + t)
          else (s.accruals.get i).secWithin)
        ∧ (u.accruals.get i).secBurst =
          (if l.zone = .burst then min (2 ^ 32 - 1) ((s.accruals.get i).secBurst + t) else (s.accruals.get i).secBurst)
        ∧ (u.accruals.get i).secExhausted =
          (if l.zone = .exhausted then min (2 ^ 32 - 1) ((s.accruals.get i).secExhausted + t)
          else (s.accruals.get i).secExhausted))
  ∧ (∀ (s : State) (w : Sweep), s.sweep = some w → w.finished = true → s.closer.close = .idle →
        let read := s.applyCapture w
        ∃ (u : State) (placed : TenantId → List Entry), exec .sweepAccounting s = .next u
          ∧ u.outlets = read.outlets ∧ u.queue = read.queue ++ (List.finRange 64).flatMap placed
          ∧ (∀ i, (s.contract i).active = false →
              placed i = [] ∧ u.live.get i = read.live.get i ∧ u.accruals.get i = read.accruals.get i)
          ∧ (∀ i, (s.contract i).active = true →
              let k := s.contract i
              let before := read.live.get i
              let l := u.live.get i
              let a := u.accruals.get i
              let queue := read.queue ++ ((List.finRange 64).take i.val).flatMap placed
              let draw := l.drawA + l.drawB
              let wanted : Bool :=
                decide (k.policy ≠ .report ∧ before.curtailment ≠ .restoring
                  ∧ (l.zone = .over ∧ k.ceiling < draw ∨ l.zone = .exhausted ∧ k.committed < draw))
              let now : Curtailment :=
                if before.curtailment = .listSpent ∧ wanted = false then
                  if before.stack = [] then .clear else .curtailed
                else before.curtailment
              let blocked : Bool :=
                before.inFlight.isSome || queue.any fun e => e.stale != .clear && e.origin == .tenant i
              let candidate (o : OutletId) : Bool :=
                decide ((u.outlets.get o).relay = .closed ∧ (u.outlets.get o).cause = .none
                  ∧ (u.outlets.get o).fault = false ∧ (∀ e ∈ queue, e.outlet ≠ o) ∧ o ∉ before.stack)
              let shed := (s.shedList i).find? candidate
              let step : Option (OutletId × Action) :=
                if blocked = true then none
                else if now = .restoring then
                  before.stack.head?.filter (fun o => (u.outlets.get o).relay = .opened) |>.map (·, .closing)
                else if wanted = true then shed.map (·, .opening)
                else
                  before.stack.head?.filter (fun o =>
                    k.policy = .shedAuto ∧ l.zone = .within ∧ k.restore ≤ l.credit ∧ k.dwell ≤ before.sinceStep
                      ∧ (u.outlets.get o).fault = false ∧ (u.outlets.get o).relay = .opened) |>.map (·, .closing)
              placed i =
                (match step with
                | some (o, act) =>
                  if queue.length < 32 ∧ ∀ e ∈ queue, e.outlet ≠ o ∧ e.origin ≠ .tenant i then
                    [{ outlet := o, action := act, origin := .tenant i, state := .pending, stale := .clear
                       offered := false }]
                  else []
                | none => [])
              ∧ l.inFlight = (if placed i = [] then before.inFlight else step)
              ∧ a.deferredSteps =
                (if step ≠ none ∧ 32 ≤ queue.length then min 65535 ((read.accruals.get i).deferredSteps + 1)
                else (read.accruals.get i).deferredSteps)
              ∧ a.listSpentSeen =
                ((read.accruals.get i).listSpentSeen || (!blocked && wanted && shed.isNone))
              ∧ l.curtailment =
                (if blocked = true then now
                else if now = .restoring then if before.stack = [] then .clear else .restoring
                else if wanted = true ∧ shed = none ∧ (now = .clear ∨ now = .curtailed) then .listSpent
                else now)
              ∧ l.stack = before.stack ∧ l.sinceStep = min 65535 (before.sinceStep + 1))
          ∧ ∀ p, s.role p ≠ .disabled →
            ((u.ports.get p).notices.getLsbD 2 = true ↔ (s.ports.get p).notices.getLsbD 2 = true
              ∨ ∃ i, (s.contract i).active = true
                ∧ (((u.live.get i).zone = .exhausted ∨ (u.live.get i).zone = .over)
                    ∧ ((s.live.get i).zone = .within ∨ (s.live.get i).zone = .burst)
                  ∨ (u.live.get i).curtailment = .listSpent ∧ (read.live.get i).curtailment ≠ .listSpent)))

/-- ENTRY_TIMEOUT at the accounting in which an ISSUED entry is observed unconfirmed for the third time: the entry leaves
the queue, its outlet's fault flag is set, ACTUATION_FAULT is raised in every port, and FAULT_SEEN is set for a tenant
origin whose vacating did not make the entry stale. That accounting does the same as SWEEP_ACCOUNTING (the model's
reading of the two commands, log entry 4). What the readings of any accounting do to the queue and the stacks: confirmed
and timed out entries leave, other observed ones age, and only the decisions' entries join; a confirmed port entry gives
ADMIN or NONE, a stale one ADMIN, a tenant's own OPEN pushes its outlet with cause SHED, its own CLOSE takes its outlet
off with cause NONE (log entry 34); the step in flight, the step counts, the sweeps since last step, the curtailment state,
the fault flags and ACTUATION_FAULT follow. This holds in every state whose stacks are sound, an invariant stated beside.
That an entry delisted and later vacated sets no FAULT_SEEN is the model's reading (log entry 26). -/
def Obligations.EntryTimesOutAtThirdSweep : Prop :=
  (∀ (s : State) (w : Sweep) (e : Entry) (point began : Nat), s.sweep = some w → w.finished = true →
    s.closer.close = .idle → (s.queue.map (·.outlet)).Nodup → e ∈ s.queue → e.state = .issued 2 point →
    s.used (moduleOfOutlet e.outlet) = true → w.lastPoll.get (moduleOfOutlet e.outlet) = some began → point < began →
    (∀ a, w.capture.get (moduleOfOutlet e.outlet) = some a →
      (a.blocks.get (channelOfOutlet e.outlet)).valid = false
        ∨ (a.blocks.get (channelOfOutlet e.outlet)).position ≠ e.action.position) →
    ∃ t, exec (.entryTimeout e.outlet) s = .next t ∧ exec .sweepAccounting s = .next t ∧ e ∉ t.queue
      ∧ (t.outlets.get e.outlet).fault = true
      ∧ (∀ p, s.role p ≠ .disabled →
          Notice.actuationFault.bit &&& (t.ports.get p).notices = Notice.actuationFault.bit)
      ∧ ∀ i, e.origin = .tenant i → e.stale ≠ .vacated → (t.accruals.get i).faultSeen = true)
  ∧ (∀ (s : State) (w : Sweep), s.sweep = some w → w.finished = true → s.closer.close = .idle → s.stacksSound →
        let read := s.applyCapture w
        ∃ t, exec .sweepAccounting s = .next t
          ∧ read.queue = (s.queue.filter fun e => !(s.confirmed w e || s.timedOut w e)).map (s.aged w)
          ∧ (∃ placed, t.queue = read.queue ++ placed ∧ ∀ e ∈ placed, e.state = .pending)
          ∧ (∀ e ∈ s.queue, (t.outlets.get e.outlet).cause =
              if s.confirmed w e = true then
                match e.origin with
                | .port _ => if e.action = .opening then .admin else .none
                | .tenant _ => if e.stale ≠ .clear then .admin else if e.action = .opening then .shed else .none
              else (s.outlets.get e.outlet).cause)
          ∧ (∀ o, (t.outlets.get o).fault =
              ((s.outlets.get o).fault || s.queue.any fun e => e.outlet == o && s.timedOut w e))
          ∧ (∀ i,
              let before := s.live.get i
              let kept := before.stack.filter fun o => !s.foreignClosed w o
              let stack :=
                match s.stepConfirmed w i with
                | some e => if e.action = .opening then e.outlet :: kept else kept.filter (· ≠ e.outlet)
                | none => kept
              let emptied : Prop := (before.curtailment = .curtailed ∨ before.curtailment = .restoring) ∧ before.stack ≠ []
              (t.live.get i).stack = stack
              ∧ read.live.get i =
                { before with
                  stack := stack
                  inFlight :=
                    if s.queue.any fun e => e.ofTenant i && (s.confirmed w e || s.timedOut w e) then none
                    else before.inFlight
                  sinceStep := if (s.stepConfirmed w i).isSome then 0 else before.sinceStep
                  curtailment := (read.live.get i).curtailment }
              ∧ (∀ e, s.stepConfirmed w i = some e → e.action = .opening →
                  ((read.live.get i).curtailment = .restoring ↔ before.curtailment = .restoring
                    ∧ ¬ (before.stack ≠ [] ∧ ∀ o ∈ before.stack, s.foreignClosed w o = true ∧ o < e.outlet))
                  ∧ ((read.live.get i).curtailment = .restoring ∨ (read.live.get i).curtailment = .curtailed))
              ∧ ((∀ e, s.stepConfirmed w i = some e → e.action = .closing) →
                  (stack = [] ∧ emptied → (read.live.get i).curtailment = .clear)
                  ∧ (¬ (stack = [] ∧ emptied) → (read.live.get i).curtailment = before.curtailment))
              ∧ (t.accruals.get i).shedSteps =
                (if ∃ e, s.stepConfirmed w i = some e ∧ e.action = .opening then
                  min 65535 ((s.accruals.get i).shedSteps + 1)
                else (s.accruals.get i).shedSteps)
              ∧ (t.accruals.get i).restoreSteps =
                (if ∃ e, s.stepConfirmed w i = some e ∧ e.action = .closing then
                  min 65535 ((s.accruals.get i).restoreSteps + 1)
                else (s.accruals.get i).restoreSteps)
              ∧ ((t.accruals.get i).faultSeen = true ↔ (s.accruals.get i).faultSeen = true
                ∨ ∃ e ∈ s.queue, e.ofTenant i = true ∧ s.timedOut w e = true ∧ e.stale ≠ .vacated))
          ∧ ∀ p, s.role p ≠ .disabled →
            ((t.ports.get p).notices.getLsbD 5 = true ↔ (s.ports.get p).notices.getLsbD 5 = true
              ∨ ∃ e ∈ s.queue, s.timedOut w e = true))

/-- SCHEDULED_CLOSE_START at the accounting that brings the count to the close target: with room for the record a close
starts, not early, at this second, with the SEALED set taken; without room the interval is extended: the extension count
rises, saturating at 255, the target rises by L/t, RING_FULL_EXTENDED is raised in every port and no close starts.
SWEEP_ACCOUNTING does the same (log entry 4). -/
def Obligations.ScheduledCloseStartsOrExtends : Prop :=
  ∀ (s : State) (w : Sweep), s.sweep = some w → w.finished = true → s.closer.close = .idle →
    s.closer.counted + 1 = s.closer.target →
    ∃ t, exec .scheduledCloseStart s = .next t ∧ exec .sweepAccounting s = .next t
      ∧ (2 + s.activeCount ≤ s.ring.free + s.releasable →
          t.closer.close = .closing
            { step := .build, early := false, closeSecond := s.seconds
              taken := match s.claim with | .sealed c => some c | _ => none }
          ∧ t.closer.target = s.closer.target ∧ t.closer.extensions = s.closer.extensions)
      ∧ (s.ring.free + s.releasable < 2 + s.activeCount →
          t.closer.close = .idle ∧ t.closer.extensions = min 255 (s.closer.extensions + 1)
          ∧ t.closer.target = s.closer.target + s.committed.timing.length / s.committed.timing.period
          ∧ t.ring = s.ring
          ∧ ∀ p, s.role p ≠ .disabled →
            Notice.ringFullExtended.bit &&& (t.ports.get p).notices = Notice.ringFullExtended.bit)

/-! ### The interval close -/

/-- CLOSE_BUILD_RECORD writes the header, one line per ACTIVE tenant in index order and the house line into consecutive
slots from the write position on, slot 2047 followed by slot 0; the record is not yet available, the write position moves
past it, and nothing else changes. -/
def Obligations.CloseBuildWritesRecordSlots : Prop :=
  ∀ (s : State) (c : CloseInFlight), s.closer.close = .closing c → c.step = .build →
    let lines := ((List.finRange 64).filter fun i => (s.contract i).active).map s.tenantLine
    let content := s.headerSlot c :: (lines ++ [s.houseLine])
    ∃ t, exec .closeBuildRecord s = .next t
      ∧ (∀ n, n < content.length →
          readSlot t.ring.slots ((s.ring.writePos + n) % 2048) = content[n]?)
      ∧ (∀ j, (∀ n, n < content.length → j ≠ (s.ring.writePos + n) % 2048) →
          readSlot t.ring.slots j = readSlot s.ring.slots j)
      ∧ t.ring.records = s.ring.records
      ∧ t.ring.building =
          some { sequence := s.closer.sequence, start := s.ring.writePos, length := content.length }
      ∧ t.ring.writePos = (s.ring.writePos + content.length) % 2048
      ∧ t = { s with
          ring := t.ring
          closer := { s.closer with close := .closing { c with step := .apply } } }

/-- The header slot carries its fields at the bytes of Table 11-5 and fills 64 bytes. A tenant line carries its fields
at the bytes of Table 11-6 and fills 64 bytes; the house line carries index 64, the house accrual's energy and
flags, and zero in bytes 26 to 62. -/
def Obligations.RecordSlotsCarryTheirFields : Prop :=
  (∀ (s : State) (c : CloseInFlight), s.closer.counted < 2 ^ 32 → s.closer.extensions ≤ 255 →
      let h := s.headerSlot c
      let field (first n : Nat) : Nat := ofBytes ((h.drop first).take n)
      h.length = 64 ∧ field 0 1 = 1 ∧ field 1 4 = s.closer.sequence.toNat ∧ field 5 4 = s.closer.startSecond.toNat
        ∧ field 9 4 = (c.closeSecond - s.closer.startSecond).toNat ∧ field 13 4 = s.closer.counted
        ∧ field 17 2 = s.closer.generation.toNat ∧ field 19 1 = s.activeCount + 1
        ∧ field 20 1 =
          (if 0 < s.closer.extensions then 1 else 0) + (if c.early then 2 else 0) + (if c.taken.isSome then 4 else 0)
            + (if s.closer.noteHold then 8 else 0) + (if s.closer.noteOverrun then 16 else 0)
            + (if s.closer.noteEstimates then 32 else 0)
        ∧ field 21 1 = s.closer.extensions ∧ ∀ k, 22 ≤ k → k < 64 → field k 1 = 0)
  ∧ (∀ (s : State) (i : TenantId), (s.contract i).inRange → (s.accruals.get i).inRange → (s.live.get i).credit < 2 ^ 32 →
        let h := s.tenantLine i
        let g := s.houseLine
        let a := s.accruals.get i
        let field (slot : List Byte) (first n : Nat) : Nat := ofBytes ((slot.drop first).take n)
        (h.length = 64 ∧ field h 0 1 = 2 ∧ field h 1 1 = i.val
            ∧ field h 2 6 = (BitVec.ofInt 48 a.energy.energyA).toNat ∧ field h 8 6 = (BitVec.ofInt 48 a.energy.energyB).toNat
            ∧ field h 14 6 = a.energy.estimated.toNat ∧ field h 20 6 = (BitVec.ofInt 48 a.energy.correction).toNat
            ∧ field h 26 3 = (s.contract i).committed ∧ field h 29 3 = (s.contract i).ceiling ∧ field h 32 3 = a.peak
            ∧ field h 35 4 = a.secWithin ∧ field h 39 4 = a.secBurst ∧ field h 43 4 = a.secExhausted
            ∧ field h 47 4 = a.secOver ∧ field h 51 4 = (s.live.get i).credit ∧ field h 55 2 = a.shedSteps
            ∧ field h 57 2 = a.restoreSteps ∧ field h 59 2 = a.deferredSteps
            ∧ field h 61 1 = (s.live.get i).zone.code.toNat ∧ field h 62 1 = (s.live.get i).curtailment.code.toNat
            ∧ field h 63 1 =
              (if a.listSpentSeen then 1 else 0) + (if a.energy.void then 2 else 0) + (if a.faultSeen then 4 else 0)
                + (if a.energy.saturated then 8 else 0))
        ∧ g.length = 64 ∧ field g 0 1 = 2 ∧ field g 1 1 = 64
          ∧ field g 2 6 = (BitVec.ofInt 48 s.house.energyA).toNat ∧ field g 8 6 = (BitVec.ofInt 48 s.house.energyB).toNat
          ∧ field g 14 6 = (BitVec.ofInt 48 s.house.estimated).toNat
          ∧ (s.house.inRange → field g 14 6 = s.house.estimated.toNat)
          ∧ field g 20 6 = (BitVec.ofInt 48 s.house.correction).toNat
          ∧ (∀ k, 26 ≤ k → k < 63 → field g k 1 = 0)
          ∧ field g 63 1 = (if s.house.void then 2 else 0) + (if s.house.saturated then 8 else 0))

/-- CLOSE_APPLY with no taken set only goes on to step 5. With one, the set becomes the committed configuration, the map
and the pool are those derived from it, the generation rises by 1 modulo 2^16, the claim is IDLE, AMENDMENT_APPLIED is
raised in every port, and each tenant's live part follows its case: new with credit Qmax, continuing with demand, draws,
zone and sweeps since last step kept and credit clamped to Qmax, vacated with the vacant values. The pool is laid out
from the set's lists. A continuing tenant's stack loses the outlets of removed modules and those off its new list, which
become ADMIN, and keeps the rest in order; a CURTAILED or RESTORING tenant whose stack it empties becomes CLEAR, and the
step in flight ends with an entry that leaves. A vacated tenant's stacked outlets become ADMIN too, but for those of
removed modules. -/
def Obligations.CloseApplyInstallsTakenSet : Prop :=
  ∀ (s : State) (c : CloseInFlight), s.closer.close = .closing c → c.step = .apply →
    (c.taken = none →
      exec .closeApply s =
        .next { s with closer := { s.closer with close := .closing { c with step := .resetAccumulators } } })
    ∧ ∀ set, c.taken = some set →
      ∃ t, exec .closeApply s = .next t
        ∧ t.shadowCopy = set ∧ t.committed = set.committed ∧ t.attribution = attributionOf set.windows
        ∧ t.closer = { s.closer with
            generation := s.closer.generation + 1, close := .closing { c with step := .resetAccumulators } }
        ∧ t.claim = .idle ∧ t.ports = (s.notify .amendmentApplied fun _ => true).ports
        ∧ (∀ i, (s.contract i).active = false → (set.contracts.get i).active = true →
            t.live.get i = { Live.vacant with credit := (set.contracts.get i).qmax })
        ∧ (∀ i, (s.contract i).active = true → (set.contracts.get i).active = true →
            t.live.get i =
              { s.live.get i with
                credit := min (s.live.get i).credit (set.contracts.get i).qmax
                stack := (t.live.get i).stack, inFlight := (t.live.get i).inFlight
                curtailment := (t.live.get i).curtailment }
            ∧ (t.live.get i).stack = ((s.live.get i).stack.filter fun o =>
                (!s.used (moduleOfOutlet o) || (set.modules.get (moduleOfOutlet o)).used)
                  && (set.lists.get i).contains o)
            ∧ (∀ o ∈ (s.live.get i).stack, o ∉ set.lists.get i →
                (s.used (moduleOfOutlet o) = false ∨ (set.modules.get (moduleOfOutlet o)).used = true) →
                (t.outlets.get o).cause = .admin)
            ∧ (t.live.get i).curtailment =
              (if (t.live.get i).stack = [] ∧ (s.live.get i).stack ≠ []
                  ∧ ((s.live.get i).curtailment = .curtailed ∨ (s.live.get i).curtailment = .restoring) then .clear
              else (s.live.get i).curtailment)
            ∧ (t.live.get i).inFlight =
              (if ∃ e ∈ s.queue, e.origin = .tenant i
                  ∧ ((s.used (moduleOfOutlet e.outlet) = true ∧ (set.modules.get (moduleOfOutlet e.outlet)).used = false)
                    ∨ (e.state = .pending ∧ e.outlet ∉ set.lists.get i)) then none
              else (s.live.get i).inFlight))
        ∧ (∀ i, (s.contract i).active = true → (set.contracts.get i).active = false →
            t.live.get i = .vacant
            ∧ ∀ o ∈ (s.live.get i).stack,
              (s.used (moduleOfOutlet o) = false ∨ (set.modules.get (moduleOfOutlet o)).used = true) →
              (t.outlets.get o).cause = .admin)
        ∧ t = { s with
            committed := t.committed, attribution := t.attribution, closer := t.closer, claim := t.claim
            ports := t.ports, live := t.live, outlets := t.outlets, modules := t.modules, queue := t.queue
            sweep := t.sweep, link := t.link }

/-- An application treats each module by its case: removed, it is UNUSED and its 24 outlet records hold their initial
values; added, it is AWAITING with no misses; used or unused before and after, its record is kept. Of the outlet records
of a module not removed nothing changes but the cause, which becomes ADMIN exactly for an outlet in the stack of a tenant
that the set vacates or whose new list leaves the outlet out. The queue loses the entries of removed modules and the
PENDING tenant entries made stale, and keeps the rest in order: an ISSUED entry made stale with its mark set and nothing
else of it changed, every port entry and every entry on its tenant's new list as it was. That a vacating is marked apart
from a delisting, and over it, is the model's choice (log entry 26). -/
def Obligations.CloseApplyTreatsModulesByCase : Prop :=
  ∀ (s : State) (c : CloseInFlight) (set : Configuration), s.closer.close = .closing c → c.step = .apply →
    c.taken = some set →
    let removed (m : ModuleId) : Bool := s.used m && !(set.modules.get m).used
    let vacated (i : TenantId) : Bool := (s.contract i).active && !(set.contracts.get i).active
    let offList (i : TenantId) (o : OutletId) : Bool := vacated i || !(set.lists.get i).contains o
    let leaves (e : Entry) : Bool :=
      removed (moduleOfOutlet e.outlet)
        || match e.origin, e.state with | .tenant i, .pending => offList i e.outlet | _, _ => false
    let marked (e : Entry) : Entry :=
      match e.origin with
      | .tenant i =>
        if vacated i = true then { e with stale := .vacated }
        else if e.outlet ∉ set.lists.get i ∧ e.stale = .clear then { e with stale := .delisted }
        else e
      | .port _ => e
    ∃ t, exec .closeApply s = .next t
      ∧ t.queue = (s.queue.filter fun e => !leaves e).map marked
      ∧ (∀ o, removed (moduleOfOutlet o) = false →
          t.outlets.get o =
            if ∃ i, o ∈ (s.live.get i).stack ∧ (s.contract i).active = true ∧ offList i o = true then
              { s.outlets.get o with cause := .admin }
            else s.outlets.get o)
      ∧ (∀ m, s.used m = true → (set.modules.get m).used = false →
          t.modules.get m = { state := .unused, misses := 0, feedPresent := false, moduleFault := false }
          ∧ (∀ o, moduleOfOutlet o = m → t.outlets.get o = .initial)
          ∧ ∀ e ∈ t.queue, moduleOfOutlet e.outlet ≠ m)
      ∧ (∀ m, s.used m = false → (set.modules.get m).used = true →
          t.modules.get m = { state := .awaiting, misses := 0, feedPresent := false, moduleFault := false })
      ∧ (∀ m, s.used m = (set.modules.get m).used →
          t.modules.get m = s.modules.get m
          ∧ ∀ o, moduleOfOutlet o = m →
            t.outlets.get o = s.outlets.get o ∨ t.outlets.get o = { s.outlets.get o with cause := .admin })
      ∧ (∀ e ∈ t.queue, ∀ i, e.origin = .tenant i → e.outlet ∉ set.lists.get i →
          e.isPending = false ∧ e.stale ≠ .clear)

/-- CLOSE_RESET_ACCUMULATORS zeroes every tenant's interval accumulators and the house accrual, clears ESTIMATES and
OVERRUN_SEEN, and notes HOLD_SEEN for the new interval exactly when the line is asserted or an assertion was held;
nothing else changes. A step of the close that is not the one that comes next changes nothing (log entry 1). -/
def Obligations.CloseResetZeroesAccumulators : Prop :=
  (∀ (s : State) (c : CloseInFlight), s.closer.close = .closing c → c.step = .resetAccumulators →
      exec .closeResetAccumulators s = .next
        { s with
          accruals := .fill 64 .zero, house := .zero
          closer := { s.closer with
            noteEstimates := false, noteOverrun := false, noteHold := s.pins.actuationHold || s.closer.heldHold
            heldHold := false, close := .closing { c with step := .complete } } })
  ∧ (∀ s : State,
        ((∀ c, s.closer.close = .closing c → c.step ≠ .build) → exec .closeBuildRecord s = .next s)
        ∧ ((∀ c, s.closer.close = .closing c → c.step ≠ .apply) → exec .closeApply s = .next s)
        ∧ ((∀ c, s.closer.close = .closing c → c.step ≠ .resetAccumulators) → exec .closeResetAccumulators s = .next s)
        ∧ ((∀ c, s.closer.close = .closing c → c.step ≠ .complete) → exec .closeComplete s = .next s))

/-- CLOSE_COMPLETE opens the next interval at the close second with sequence, count, target and extension count set, makes
the written record available, ends the close, raises INTERVAL_CLOSED in every port, and RING_LOW where fewer than 66
slots are free or releasable. An assertion of ACTUATION_HOLD since step 5 is noted for the interval it opens (the
model's reading, log entry 22). A sweep whose accounting waited is accounted in the same event, as the first of the new
interval, and so is a late sweep that starts after it with no polls to make (log entry 5). -/
def Obligations.CloseCompleteOpensInterval : Prop :=
  ∀ (s : State) (c : CloseInFlight), s.closer.close = .closing c → c.step = .complete →
    ∃ t, ((∀ w, s.sweep = some w → w.finished = false) → exec .closeComplete s = .next t)
      ∧ (∀ w, s.sweep = some w → w.finished = true →
          ∃ u v, exec .sweepAccounting t = .next u ∧ exec .sweepAccounting u = .next v
            ∧ exec .closeComplete s = .next v
            ∧ (s.late = false ∨ (∃ m, s.used m = true) → v = u))
      ∧ t.ring = { s.ring with records := s.ring.records ++ s.ring.building.toList, building := none }
      ∧ t.closer =
          { sequence := s.closer.sequence + 1, startSecond := c.closeSecond, counted := 0
            target := s.committed.timing.length / s.committed.timing.period, extensions := 0
            noteEstimates := s.closer.noteEstimates, noteOverrun := s.closer.noteOverrun
            noteHold := s.closer.noteHold || s.pins.actuationHold || s.closer.heldHold, heldHold := false
            generation := s.closer.generation, close := .idle }
      ∧ t.ports =
          (if t.ring.free + t.releasable < 66 then
            ((s.notify .intervalClosed fun _ => true).notify .ringLow fun _ => true).ports
          else (s.notify .intervalClosed fun _ => true).ports)
      ∧ t = { s with ring := t.ring, closer := t.closer, ports := t.ports }

/-- The pool laid out from shed lists gives every list back, tenant by tenant, one slot per entry, each list directly
after the one before it. -/
def Obligations.PoolHoldsEveryList : Prop :=
  ∀ (c : Configuration) (s : State), s.committed = c.committed →
    (∀ i, s.shedList i = c.lists.get i) ∧ s.committed.pool.slots.length = (c.lists.list.map (·.length)).sum
      ∧ (∀ i, (s.committed.pool.extents.get i).length = (c.lists.get i).length)
      ∧ ((s.committed.pool.extents.get 0).first = 0)
      ∧ ∀ i j : TenantId, j.val = i.val + 1 →
        (s.committed.pool.extents.get j).first = (s.committed.pool.extents.get i).first + (c.lists.get i).length

/-! ### Frames -/

/-- At the fall of select a port that is not DISABLED begins its frame and samples its status byte: last result in bits 7
to 4, CLOSING, CLAIM_HELD, ALERT and RUNNING in bits 3 to 0. It clocks the status byte out first and 0xFF after it, until
a read has its response. Nothing else changes but the CONFIG_LOCK level the command carries; in a frame already begun the
status is not sampled again (log entries 1 and 7). -/
def Obligations.SelectFallSamplesStatus : Prop :=
  ∀ (c : Instr) (p : Port) (s : State), c.wf = true → c.port? = some p → c.atFall = true → s.role p ≠ .disabled →
    let q := s.ports.get p
    let status : Byte :=
      BitVec.ofNat 8
        (16 * q.result.code.toNat
          + (if s.closer.close = .idle then 0 else 8)
          + (match s.claim with | .opened r _ _ => if r = p then 4 else 0 | _ => 0)
          + (if q.notices &&& q.mask = 0 then 0 else 2)
          + (if s.run = .running then 1 else 0))
    ∃ t, exec c s = .next t
      ∧ t.ports =
          (match q.frame with
          | some _ => s.ports
          | none =>
            s.ports.set p { q with frame := some { latch := none, stream := none }, status := status, reply := [] })
      ∧ (q.frame = none → ∀ n k, t.dataOut p n 0 = some status ∧ t.dataOut p n (k + 1) = some 0xFF)
      ∧ t = { s with ports := t.ports, pins := { s.pins with configLock := c.lock?.getD s.pins.configLock } }

/-- A DISABLED port ignores every frame: no command of its frames changes anything, and it drives no data out. Of a part
whose DISABLED ports hold nothing, no other command but a reset or its release changes such a port's record, so its notice set and mask
stay empty, its ALERT deasserted, its subscription NONE and its last result as it was. DISABLED_PORT_FRAME changes
nothing in any state; that it does so at a port that is not DISABLED is the model's choice (log entry 28). -/
def Obligations.DisabledPortIgnoresFrames : Prop :=
  ((∀ (c : Instr) (p : Port) (s : State), c.port? = some p → s.role p = .disabled →
        exec c s = .next s ∧ ∀ n k, s.dataOut p n k = none)
      ∧ ∀ (c : Instr) (p : Port) (s t : State), s.portsSound → s.role p = .disabled → c ≠ .partReset →
          (∀ r1 r0, c ≠ .resetRelease r1 r0) → exec c s = .next t →
          t.ports.get p = s.ports.get p ∧ (t.ports.get p).notices = 0 ∧ (t.ports.get p).mask = 0
            ∧ (t.ports.get p).alert = false ∧ (t.ports.get p).delivery = .unsubscribed)
  ∧ (∀ (p : Port) (e : FrameEdge) (s : State), exec (.disabledPortFrame p e) s = .next s)

/-- A discarded frame sets the port's last result to FRAME and raises FRAME_DISCARDED in that port alone; a STAGE_SHED_LIST
that ends before the outlets its count promises is one; an unknown request code is answered UNKNOWN; an empty frame
leaves every state of the port as it was, its progress over. -/
def Obligations.DiscardedUnknownAndEmptyFrames : Prop :=
  ∀ (p : Port) (s : State), s.role p ≠ .disabled →
    (exec (.frameDiscard p .selectRises) s =
        .next (s.answer p .frame fun q => { q with notices := q.notices ||| Notice.frameDiscarded.bit }))
    ∧ (∀ tenant count outlets, count.toNat ≤ 16 → outlets.length < count.toNat →
        exec (.stageShedList p .selectRises tenant count outlets) s = exec (.frameDiscard p .selectRises) s)
    ∧ (∀ code, code ∉ requestCodes → exec (.unknownRequest p .selectRises code) s = .next (s.refuse p .unknown))
    ∧ exec (.emptyFrame p .selectRises) s =
        .next { s with ports := s.ports.modify p fun q => { q with frame := none } }

/-- A frame's bytes and its command agree: every well-formed request, at every value of its arguments, is what a frame
of its bytes decodes to, with any bytes clocked in after its full length ignored; off a byte boundary it is
discarded. A frame that ends within its request's fixed arguments, or within the variable part they promise, is
discarded, at every length short of the request's. The table of commands gives no bits: the two functions are the
model's own over Table 11-3 (log entry 31). -/
def Obligations.FrameBytesDecodeToTheirRequest : Prop :=
  (∀ (i : Instr) (p : Port) (lock whole : Bool) (bytes extra : List Byte), i.wf = true → encodeFrame i = some bytes →
      bytes ≠ [] →
      decodeFrame p true lock whole (bytes ++ extra) = i.asFrame p lock whole
        ∧ decodeFrame p false lock whole (bytes ++ extra) = .frameDiscard p .selectRises)
  ∧ (∀ (i : Instr) (p : Port) (lock whole : Bool) (bytes : List Byte) (n : Nat), i.wf = true →
        encodeFrame i = some bytes → 0 < n → n < bytes.length →
        decodeFrame p true lock whole (bytes.take n) = .frameDiscard p .selectRises)

/-- A request that its port's role does not allow is refused with ROLE and changes nothing but the last result, and for
SEAL_AMENDMENT the CONFIG_LOCK level that the command carries (the model's choice, log entry 7): the amendment,
curtailment and early close requests of a port that is not a facility port, and SUBSCRIBE RETAIN and ACK_RECORDS of a
viewer. -/
def Obligations.RoleGateRefusesRequests : Prop :=
  ∀ (c : Instr) (p : Port) (s : State), s.role p ≠ .disabled →
    (s.role p ≠ .facility →
      (c ∈ [Instr.openAmendment p .selectRises, .takeoverAmendment p .selectRises, .recallSealed p .selectRises,
          .discardAmendment p .selectRises, .endInterval p .selectRises]
        ∨ (∃ i, c = .restoreTenant p .selectRises i) ∨ (∃ o a, c = .setOutlet p .selectRises o a)
        ∨ (∃ i a k l q r h d y x, c = .stageTenant p .selectRises i a k l q r h d y x)
        ∨ (∃ n o f l i, c = .stageWindow p .selectRises n o f l i)
        ∨ (∃ i n os, c = .stageShedList p .selectRises i n os ∧ c.wf = true)
        ∨ (∃ m u f, c = .stageModule p .selectRises m u f) ∨ (∃ t l k, c = .stageTiming p .selectRises t l k)) →
      exec c s = .next (s.refuse p .role))
    ∧ (s.role p ≠ .facility → ∀ t lock, exec (.sealAmendment p .selectRises t lock) s =
        .next ((s.lockAt lock).refuse p .role))
    ∧ (s.role p = .viewer → (c = .subscribe p .selectRises 2 ∨ ∃ q, c = .ackRecords p .selectRises q) →
      exec c s = .next (s.refuse p .role))

/-! ### Reads -/

/-- A read keeps the response of its snapshot: once the snapshot is taken, the response and the last result recorded when
select rises are those of the snapshot, whatever the part did meanwhile to anything but the port's own role, frame and
response; and a whole frame in one command gives the same as its snapshot followed by its rise (the moments of a frame are
the model's operand, log entry 6). The port clocks out its status, 0xFF for every argument byte, the response, and 0xFF
from then on, which also stands in place of a refused read's response. For every read with its checks: READ_TENANT and
READ_COMPLIANCE in and outside a close, every index, and both views of READ_CONFIG. -/
def Obligations.ReadKeepsItsSnapshot : Prop :=
  ∀ (p : Port) (s : State), s.role p ≠ .disabled → (s.ports.get p).frame = none →
    let keeps (read : ReadMoment → Instr) (arguments : Nat) (form : Result × List Byte) : Prop :=
      let reply := if form.1 = .ok then form.2 else []
      let sent (k : Nat) : Option Byte := some (if k < arguments then 0xFF else reply.getD (k - arguments) 0xFF)
      ∃ t, exec (read .snapshot) s = .next t
        ∧ exec (read .selectRises) s = exec (read .selectRises) t
        ∧ t.dataOut p arguments 0 = some (s.statusByte p) ∧ (∀ k, t.dataOut p arguments (k + 1) = sent k)
        ∧ ∀ u : State, u.role p = s.role p → (u.ports.get p).frame = (t.ports.get p).frame →
          (u.ports.get p).reply = (t.ports.get p).reply →
          (∀ k, u.dataOut p arguments (k + 1) = sent k)
          ∧ ∃ v, exec (read .selectRises) u = .next v ∧ (v.ports.get p).result = form.1
            ∧ (v.ports.get p).reply = reply ∧ (v.ports.get p).frame = none
    keeps (.identify p) 0 (.ok, s.identifyReply) ∧ keeps (.readPort p) 0 (.ok, s.portReply p)
    ∧ keeps (.readSealReport p) 0 (.ok, s.sealReportReply) ∧ keeps (.readQueue p) 0 (.ok, s.queueReply)
    ∧ keeps (.readCompliance p) 0 (if s.closing then (.busy, []) else (.ok, s.complianceReply))
    ∧ (∀ index, keeps (.readTenant p · index) 1 (State.tenantForm index s))
    ∧ (∀ i : TenantId, s.closing = false → State.tenantForm (BitVec.ofNat 8 i.val) s = (.ok, s.tenantReply i))
    ∧ (∀ outlet, keeps (.readOutlet p · outlet) 2 (State.outletForm outlet s))
    ∧ (∀ index, keeps (.readModule p · index) 1 (State.moduleForm index s))
    ∧ ∀ view lock, keeps (.readConfig p · view lock) 1 (State.configForm p view (s.lockAt lock))

/-- The reads served in every part state: IDENTIFY, READ_PORT, READ_SEAL_REPORT and READ_QUEUE answer OK with their
response, and change nothing but the port's frame, last result and, from the claimant, the idle timer. The frame
is one in which no snapshot was taken before. READ_TENANT is BUSY in a close whatever its index; outside one it
shows tenant 0 to 63 or, for 64, the house accrual, and is refused RANGE above; READ_COMPLIANCE is BUSY in a close
and outside one shows state, zone and curtailment state of all 64 tenants. The place of the house's flags, READ_TENANT's
one flag byte, the widths that no table gives, and the code of the ACTUATION_HOLD level are the model's (log entries 18,
19, 20 and 37). -/
def Obligations.StateAndTenantReads : Prop :=
  (∀ (p : Port) (s : State), s.role p ≠ .disabled → s.latch? p = none →
      exec (.identify p .selectRises) s = .next (s.answerRead p .ok (s.ensureFrame p).identifyReply)
      ∧ exec (.readPort p .selectRises) s = .next (s.answerRead p .ok ((s.ensureFrame p).portReply p))
      ∧ exec (.readSealReport p .selectRises) s =
          .next (s.answerRead p .ok (beBytes 1 s.report.check ++ beBytes 2 s.report.item))
      ∧ exec (.readQueue p .selectRises) s =
          .next (s.answerRead p .ok
            (beBytes 1 s.queue.length ++ [if s.pins.actuationHold then 1 else 0]
              ++ s.queue.flatMap fun e =>
                beBytes 2 e.outlet.val ++ [e.action.code, e.origin.code, e.state.code] ++ beBytes 1 e.state.since
                  ++ [if e.stale = .clear then 0 else 1])))
  ∧ (∀ (p : Port) (index : Byte) (s : State), s.role p ≠ .disabled → s.latch? p = none →
        (s.closing = true →
          exec (.readTenant p .selectRises index) s = .next (s.answerRead p .busy [])
          ∧ exec (.readCompliance p .selectRises) s = .next (s.answerRead p .busy []))
        ∧ (s.closing = false →
          (∀ i : TenantId, index.toNat = i.val →
            exec (.readTenant p .selectRises index) s = .next (s.answerRead p .ok (s.tenantReply i)))
          ∧ (index.toNat = 64 →
            exec (.readTenant p .selectRises index) s = .next (s.answerRead p .ok s.houseReply))
          ∧ (64 < index.toNat → exec (.readTenant p .selectRises index) s = .next (s.answerRead p .range []))
          ∧ exec (.readCompliance p .selectRises) s = .next (s.answerRead p .ok
              ((List.finRange 64).flatMap fun i =>
                [if (s.contract i).active then 1 else 0, (s.live.get i).zone.code, (s.live.get i).curtailment.code]))))

/-- READ_OUTLET shows an outlet 0 to 383 and READ_MODULE a module 0 to 15; an argument above its range is refused with
RANGE. Both are served in a close. READ_CONFIG shows the committed configuration to every role; the shadow to the
claimant while OPEN and to any facility port while SEALED, and refuses every other STAGED read with NONE_OPEN; a
view that is neither is refused with RANGE. Both views show the CONFIG_LOCK level, which the command carries (log
entry 7). The place of READ_OUTLET's queue position and where its count begins, the pool slot of an empty list, the owner
byte of a house outlet, READ_MODULE's two flag bytes, the widths that no table gives, and the code of the CONFIG_LOCK
level are the model's (log entries 16, 17, 18, 19, 20 and 37). -/
def Obligations.OutletModuleAndConfigReads : Prop :=
  (∀ (p : Port) (outlet : BitVec 16) (index : Byte) (s : State), s.role p ≠ .disabled → s.latch? p = none →
      (∀ o : OutletId, outlet.toNat = o.val →
        exec (.readOutlet p .selectRises outlet) s = .next (s.answerRead p .ok (s.outletReply o)))
      ∧ (383 < outlet.toNat → exec (.readOutlet p .selectRises outlet) s = .next (s.answerRead p .range []))
      ∧ (∀ m : ModuleId, index.toNat = m.val →
        exec (.readModule p .selectRises index) s = .next (s.answerRead p .ok
          [if s.used m then 1 else 0, (s.feed m).code, (s.modules.get m).state.code,
            BitVec.ofNat 8 (s.modules.get m).misses, if (s.modules.get m).feedPresent then 1 else 0,
            if (s.modules.get m).moduleFault then 1 else 0]))
      ∧ (15 < index.toNat → exec (.readModule p .selectRises index) s = .next (s.answerRead p .range [])))
  ∧ (∀ (p : Port) (view : Byte) (lock : Bool) (s : State), s.role p ≠ .disabled → s.latch? p = none →
        let s' := s.lockAt lock
        (view = 0 → exec (.readConfig p .selectRises view lock) s = .next (s'.answerRead p .ok s'.committedReply))
        ∧ (view = 1 →
          (∀ n c, s.claim = .opened p n c →
            exec (.readConfig p .selectRises view lock) s = .next (s'.answerRead p .ok (s'.stagedReply c)))
          ∧ (∀ c, s.claim = .sealed c → s.role p = .facility →
            exec (.readConfig p .selectRises view lock) s = .next (s'.answerRead p .ok (s'.stagedReply c)))
          ∧ (((∀ n c, s.claim ≠ .opened p n c) ∧ ((∀ c, s.claim ≠ .sealed c) ∨ s.role p ≠ .facility)) →
            exec (.readConfig p .selectRises view lock) s = .next (s'.answerRead p .noneOpen [])))
        ∧ (1 < view.toNat → exec (.readConfig p .selectRises view lock) s = .next (s'.answerRead p .range [])))

/-! ### Notices and RESET_PORT -/

/-- CLEAR_NOTICES removes the notices it names from its own port's set, SET_ALERT_MASK replaces that port's mask; bits
14 and 15 name no notice; both answer OK, and the ALERT output is then the sharing of a notice by set and mask.
RESET_PORT empties its port's notice set, mask and delivery state with result OK and its role kept, and where the
port is claimant of an OPEN claim drops the claim and raises CLAIM_CHANGED in the other facility ports; nothing
else changes. -/
def Obligations.NoticeRequestsAndResetPortChangeOwnPort : Prop :=
  (∀ (p : Port) (field : BitVec 16) (s : State), s.role p ≠ .disabled →
      exec (.clearNotices p .selectRises field) s =
          .next (s.answer p .ok fun q => { q with notices := q.notices &&& ~~~(field.setWidth 14) })
      ∧ exec (.setAlertMask p .selectRises field) s =
          .next (s.answer p .ok fun q => { q with mask := field.setWidth 14 })
      ∧ ∀ q : PortState, q.alert = true ↔ ∃ n : Fin 14, q.notices.getLsbD n.val = true ∧ q.mask.getLsbD n.val = true)
  ∧ (∀ (p : Port) (s : State), s.role p ≠ .disabled →
        let t := s.answer p .ok fun q =>
          { q with notices := 0, mask := 0, delivery := .unsubscribed, skipped := 0 }
        exec (.resetPort p .selectRises) s =
          .next
            (match s.claim with
            | .opened q _ _ =>
              if q = p then { t with claim := .idle }.notify .claimChanged (s.otherFacility p) else t
            | _ => t))

/-! ### Delivery -/

/-- SUBSCRIBE to the present mode changes nothing; a change to FOLLOW or RETAIN sets the cursor to the oldest available
record, or with none to the next record to be written, with mark and acknowledgement point one below it; a change to
NONE makes all absent; the skipped count stays. A mode that is none of these is refused with RANGE. -/
def Obligations.SubscribeStartsAtOldestRecord : Prop :=
  ∀ (p : Port) (s : State), s.role p ≠ .disabled →
    let oldest : Word :=
      match s.ring.records with
      | r :: _ => r.sequence
      | [] => if s.run = .running then s.closer.sequence else 1
    (exec (.subscribe p .selectRises 0) s = .next (s.answer p .ok fun q => { q with delivery := .unsubscribed }))
    ∧ (exec (.subscribe p .selectRises 1) s =
        .next (s.answer p .ok fun q =>
          match q.delivery with
          | .follow _ _ => q
          | _ => { q with delivery := .follow oldest (oldest - 1) }))
    ∧ (s.role p ≠ .viewer →
        exec (.subscribe p .selectRises 2) s =
          .next (s.answer p .ok fun q =>
            match q.delivery with
            | .retain _ _ _ => q
            | _ => { q with delivery := .retain oldest (oldest - 1) (oldest - 1) }))
    ∧ ∀ mode : Byte, 2 < mode.toNat → exec (.subscribe p .selectRises mode) s = .next (s.refuse p .range)

/-- ACK_RECORDS is refused NOT_SUBSCRIBED outside RETAIN and RANGE beyond the delivered mark; above the
acknowledgement point it becomes that point, and at or below it changes nothing. SEEK_DELIVERY sets the cursor of
a subscribed port to the sequence of an available record, mark and acknowledgement point kept; any other sequence
is refused with RANGE, and without a subscription NOT_SUBSCRIBED. How sequences compare, and that the mark is tested before
the acknowledgement point, are the model's (log entries 10 and 38). -/
def Obligations.AckAndSeekMoveDelivery : Prop :=
  (∀ (p : Port) (q : Word) (s : State), s.role p ≠ .disabled → s.role p ≠ .viewer →
      exec (.ackRecords p .selectRises q) s = .next
        (match (s.ports.get p).delivery with
        | .retain cursor ack mark =>
          if later q mark = true then s.refuse p .range
          else
            s.answer p .ok fun x =>
              { x with delivery := if later q ack = true then .retain cursor q mark else x.delivery }
        | _ => s.refuse p .notSubscribed))
  ∧ (∀ (p : Port) (q : Word) (s : State), s.role p ≠ .disabled →
        exec (.seekDelivery p .selectRises q) s = .next
          (match (s.ports.get p).delivery with
          | .unsubscribed => s.refuse p .notSubscribed
          | .follow _ mark =>
            if ∃ r ∈ s.ring.records, r.sequence = q then s.answer p .ok fun x => { x with delivery := .follow q mark }
            else s.refuse p .range
          | .retain _ ack mark =>
            if ∃ r ∈ s.ring.records, r.sequence = q then s.answer p .ok fun x => { x with delivery := .retain q ack mark }
            else s.refuse p .range))

/-- RECORD_SLOT_STREAMED in a frame of its own begins at the header slot of the record the cursor names, read whole
from the ring, or sends an end slot where that record is not available; it changes no subscription and nothing in
the ring. Within a READ_RECORDS frame each next slot is the next of its record, then the header slot of the record
with the sequence after it; the record whose final slot is whole is the last whole record. Once its record has
been dropped, or the record after it is not available, and once an end slot has begun, every slot is an end slot.
That the command begins a frame where none is in progress, and that a drop after a record's final slot went out in full
ends the stream too, are the model's choices (log entries 27 and 39). -/
def Obligations.StreamFollowsCursorSlotBySlot : Prop :=
  (∀ (p : Port) (s : State), s.role p ≠ .disabled → (s.ports.get p).frame = none →
      ∃ t, exec (.recordSlotStreamed p) s = .next t
        ∧ t = { s with ports := t.ports }
        ∧ (∀ q, q ≠ p → t.ports.get q = s.ports.get q)
        ∧ t.ports.get p = { s.ports.get p with
            frame := (t.ports.get p).frame, status := s.statusByte p, reply := (t.ports.get p).reply }
        ∧ (∀ cursor r slot, (s.ports.get p).delivery.cursor? = some cursor → s.ring.find? cursor = some r →
            readSlot s.ring.slots (r.start % 2048) = some slot →
            (t.ports.get p).reply = slot
            ∧ t.stream? p = some { ended := false, current := some (r, 0), lastWhole := none })
        ∧ (((s.ports.get p).delivery = .unsubscribed
              ∨ ∃ cursor, (s.ports.get p).delivery.cursor? = some cursor ∧ s.ring.find? cursor = none) →
            (t.ports.get p).reply = List.replicate 64 0xFF
            ∧ t.stream? p = some { ended := true, current := none, lastWhole := none }))
  ∧ (∀ (p : Port) (s : State) (f : Frame) (l : Latch) (d : Stream), s.role p ≠ .disabled →
        (s.ports.get p).frame = some f → f.latch = some l → f.stream = some d →
        ∃ t, exec (.recordSlotStreamed p) s = .next t
          ∧ (d.ended = true → t.stream? p = some { d with current := none, lastWhole := d.slotWhole.lastWhole }
              ∧ (t.ports.get p).reply = List.replicate 64 0xFF)
          ∧ (∀ r k, d.ended = false → d.current = some (r, k) → r ∉ s.ring.records →
              (t.stream? p).map (·.ended) = some true ∧ (t.ports.get p).reply = List.replicate 64 0xFF)
          ∧ (∀ r k slot, d.ended = false → d.current = some (r, k) → r ∈ s.ring.records → k + 1 < r.length →
              readSlot s.ring.slots ((r.start + (k + 1)) % 2048) = some slot →
              t.stream? p = some { d with current := some (r, k + 1) } ∧ (t.ports.get p).reply = slot)
          ∧ (∀ r k r' slot, d.ended = false → d.current = some (r, k) → r ∈ s.ring.records → k + 1 = r.length →
              s.ring.find? (r.sequence + 1) = some r' → readSlot s.ring.slots (r'.start % 2048) = some slot →
              t.stream? p = some { d with current := some (r', 0), lastWhole := some r.sequence }
              ∧ (t.ports.get p).reply = slot)
          ∧ (∀ r k, d.ended = false → d.current = some (r, k) → r ∈ s.ring.records → k + 1 = r.length →
              s.ring.find? (r.sequence + 1) = none →
              t.stream? p = some { ended := true, current := none, lastWhole := some r.sequence }
              ∧ (t.ports.get p).reply = List.replicate 64 0xFF))

/-- READ_RECORDS at the rise of select: without a subscription NOT_SUBSCRIBED; else OK, and where the frame's last whole
record is `q`, the cursor goes to the sequence after `q` if that is later, and the delivered mark to `q` if that is
later. A frame with no record whole moves nothing. -/
def Obligations.ReadRecordsTakesWholeRecords : Prop :=
  ∀ (p : Port) (whole : Bool) (s : State), s.role p ≠ .disabled →
    ((s.ports.get p).frame = none →
      exec (.readRecords p .selectRises whole) s = .next
        (s.answer p (if (s.ports.get p).delivery = .unsubscribed then .notSubscribed else .ok) id))
    ∧ ∀ (f : Frame) (d : Stream), (s.ports.get p).frame = some f →
        f.latch = some { code := 0x31, args := [], result := .ok, reply := [] } → f.stream = some d →
        exec (.readRecords p .selectRises whole) s = .next
          (s.answer p .ok fun x =>
            match (if whole then d.slotWhole else d).lastWhole with
            | none => x
            | some q =>
              { x with
                delivery :=
                  match x.delivery with
                  | .unsubscribed => .unsubscribed
                  | .follow c m => .follow (if later (q + 1) c then q + 1 else c) (if later q m then q else m)
                  | .retain c a m => .retain (if later (q + 1) c then q + 1 else c) a (if later q m then q else m) })

/-! ### The amendment unit -/

/-- OPEN_AMENDMENT in IDLE copies the committed configuration whole into a new shadow, makes the requester claimant
with the timer at 0 and raises CLAIM_CHANGED in the other facility ports; from the claimant it restarts the timer
only; from another port it is refused CLAIMED, and in SEALED PENDING. TAKEOVER_AMENDMENT in OPEN from another port
passes the shadow intact to the requester with the timer at 0, raises CLAIM_LOST in the old claimant and
CLAIM_CHANGED in the other facility ports; from the claimant it restarts the timer only; in SEALED it is refused
PENDING and in IDLE NONE_OPEN. -/
def Obligations.OpenAndTakeoverTakeClaim : Prop :=
  (∀ (p : Port) (s : State), s.role p = .facility →
      exec (.openAmendment p .selectRises) s = .next
        (match s.claim with
        | .idle =>
          { s.answer p .ok id with
            claim := .opened p 0
              { contracts := s.committed.contracts, lists := .tabulate 64 s.shedList, windows := s.committed.windows
                modules := s.committed.modules, timing := s.committed.timing } }.notify .claimChanged (s.otherFacility p)
        | .opened q _ _ => if q = p then s.answer p .ok id else s.refuse p .claimed
        | .sealed _ => s.refuse p .pending))
  ∧ (∀ (p : Port) (s : State), s.role p = .facility →
        exec (.takeoverAmendment p .selectRises) s = .next
          (match s.claim with
          | .idle => s.refuse p .noneOpen
          | .opened q _ c =>
            if q = p then s.answer p .ok id
            else
              ({ s.answer p .ok id with claim := .opened p 0 c }.notify .claimLost fun r => r == q).notify .claimChanged
                fun r => s.otherFacility p r && !(r == q)
          | .sealed _ => s.refuse p .pending))

/-- RECALL_SEALED drops a sealed set that no close holds and raises CLAIM_CHANGED in the other facility ports; BUSY
while a close holds it as its taken set, CLAIMED in OPEN, NONE_OPEN in IDLE. A close holds its taken set until its
step 4 (the model's reading, log entry 23). DISCARD_AMENDMENT from the claimant drops the shadow, leaves the claim
IDLE and raises CLAIM_CHANGED in the other facility ports; from another port it is refused NOT_CLAIMANT, and with
nothing open NONE_OPEN. The seal report and the committed configuration are unchanged. -/
def Obligations.RecallAndDiscardDropTheSet : Prop :=
  (∀ (p : Port) (s : State), s.role p = .facility →
      exec (.recallSealed p .selectRises) s = .next
        (match s.claim with
        | .idle => s.refuse p .noneOpen
        | .opened _ _ _ => s.refuse p .claimed
        | .sealed _ =>
          match s.closer.close with
          | .closing { step := .build, taken := some _, .. } => s.refuse p .busy
          | .closing { step := .apply, taken := some _, .. } => s.refuse p .busy
          | _ => { s.answer p .ok id with claim := .idle }.notify .claimChanged (s.otherFacility p)))
  ∧ (∀ (p : Port) (s : State), s.role p = .facility →
        exec (.discardAmendment p .selectRises) s = .next
          (match s.claim with
          | .opened q _ _ =>
            if q = p then { s.answer p .ok id with claim := .idle }.notify .claimChanged (s.otherFacility p)
            else s.refuse p .notClaimant
          | _ => s.refuse p .noneOpen))

/-- A seal from the claimant is refused RANGE for a timing choice that is neither, LOCKED while CONFIG_LOCK is asserted,
and INVALID with the seal report written where validation fails, in that order; each leaves the claim OPEN and its timer
running. From another port it is refused NOT_CLAIMANT and with nothing open NONE_OPEN. The command carries the level
of CONFIG_LOCK (log entry 7). -/
def Obligations.SealRefusalsInOrder : Prop :=
  ∀ (p : Port) (timing : Byte) (lock : Bool) (s : State), s.role p = .facility →
    let s' := s.lockAt lock
    ((∀ q n c, s.claim ≠ .opened q n c) →
      exec (.sealAmendment p .selectRises timing lock) s = .next (s'.refuse p .noneOpen))
    ∧ (∀ q n c, s.claim = .opened q n c →
        (q ≠ p → exec (.sealAmendment p .selectRises timing lock) s = .next (s'.refuse p .notClaimant))
        ∧ (q = p → 1 < timing.toNat →
          exec (.sealAmendment p .selectRises timing lock) s = .next (s'.refuse p .range))
        ∧ (q = p → timing.toNat ≤ 1 → lock = true →
          exec (.sealAmendment p .selectRises timing lock) s = .next (s'.refuse p .locked))
        ∧ (q = p → timing.toNat ≤ 1 → lock = false → ∀ r, c.validate = some r →
          exec (.sealAmendment p .selectRises timing lock) s =
            .next { s'.refuse p .invalid with report := r }))

/-- A valid seal in a RUNNING part makes the set SEALED and raises CLAIM_CHANGED in the other facility ports. With AT_CLOSE,
or with a close in flight, that is all, OK. With CLOSE_NOW and none in flight an early close starts that takes the set,
OK, or is abandoned for want of ring space, RING_FULL, the set left SEALED; CLAIM_CHANGED is raised just the same. -/
def Obligations.ValidSealInRunningPart : Prop :=
  ∀ (p : Port) (n : Nat) (c : Configuration) (timing : Byte) (s : State), s.role p = .facility →
    s.claim = .opened p n c → c.validate = none → s.run = .running → timing.toNat ≤ 1 →
    let sealed : State :=
      { (s.lockAt false).answer p .ok id with claim := .sealed c }.notify .claimChanged (s.otherFacility p)
    (timing = 0 ∨ s.closer.close ≠ .idle → exec (.sealAmendment p .selectRises timing false) s = .next sealed)
    ∧ (timing = 1 → s.closer.close = .idle →
        (s.ring.free + s.releasable < 2 + s.activeCount →
          exec (.sealAmendment p .selectRises timing false) s =
            .next { sealed with ports := sealed.ports.modify p fun q => { q with result := .ringFull } })
        ∧ (2 + s.activeCount ≤ s.ring.free + s.releasable →
          ∃ t, exec (.sealAmendment p .selectRises timing false) s = .next t
            ∧ t.closer = { s.closer with
                close := .closing { step := .build, early := true, closeSecond := s.seconds, taken := some c } }
            ∧ t.claim = .sealed c ∧ (t.ports.get p).result = .ok
            ∧ (∀ q, q ≠ p → s.role q = .facility →
                Notice.claimChanged.bit &&& (t.ports.get q).notices = Notice.claimChanged.bit)
            ∧ t = { s with
                pins := t.pins, closer := t.closer, claim := t.claim, ports := t.ports, ring := t.ring }))

/-- The first valid seal of an UNCONFIGURED part applies the set at once: the part is RUNNING, the count starts from 0 and
the first sweep is due at t, interval 1 is open with target L/t and HOLD_SEEN noted exactly when the line is asserted,
the claim is IDLE, and every new tenant has the new-tenant live part. -/
def Obligations.FirstSealAppliesAtOnce : Prop :=
  ∀ (p : Port) (n : Nat) (c : Configuration) (timing : Byte) (s : State), s.role p = .facility →
    s.claim = .opened p n c → c.validate = none → s.run = .unconfigured → s.unconfiguredSound → timing.toNat ≤ 1 →
    ∃ t, exec (.sealAmendment p .selectRises timing false) s = .next t
      ∧ t.run = .running ∧ t.seconds = 0 ∧ t.nextDue = some (BitVec.ofNat 32 c.timing.period)
      ∧ t.closer =
          { sequence := 1, startSecond := 0, counted := 0, target := c.timing.length / c.timing.period, extensions := 0
            noteEstimates := false, noteOverrun := false, noteHold := s.pins.actuationHold, heldHold := false
            generation := 1, close := .idle }
      ∧ t.claim = .idle ∧ t.shadowCopy = c ∧ t.attribution = attributionOf c.windows
      ∧ (∀ i, (c.contracts.get i).active = true →
          t.live.get i = { Live.vacant with credit := (c.contracts.get i).qmax })
      ∧ (∀ m, (c.modules.get m).used = true →
          t.modules.get m = { state := .awaiting, misses := 0, feedPresent := false, moduleFault := false })
      ∧ (t.ports.get p).result = .ok
      ∧ (∀ q, s.role q ≠ .disabled →
          Notice.amendmentApplied.bit &&& (t.ports.get q).notices = Notice.amendmentApplied.bit)
      ∧ t.ring = s.ring ∧ t.accruals = s.accruals ∧ t.house = s.house

/-- What a staging request of the claimant writes: the shadow with the named record replaced and the timer at 0, OK,
where every argument is in range; else RANGE with the shadow as it was. From another port it is refused
NOT_CLAIMANT, and with nothing open NONE_OPEN. Stated for each of the five staging requests. The ranges of the
staging requests: each write is made exactly where every argument is in the range its table gives, and then
replaces exactly the named record by the arguments' values. -/
def Obligations.StagingWritesShadowWithinRanges : Prop :=
  (∀ (p : Port) (s : State), s.role p = .facility →
      let staged (write : Configuration → Option Configuration) : State :=
        match s.claim with
        | .opened q _ c =>
          if q = p then
            match write c with
            | some c' => { s.answer p .ok id with claim := .opened p 0 c' }
            | none => s.refuse p .range
          else s.refuse p .notClaimant
        | _ => s.refuse p .noneOpen
      (∀ i a k l q r h d y x,
          exec (.stageTenant p .selectRises i a k l q r h d y x) s = .next (staged (stageTenantWrite i a k l q r h d y x)))
      ∧ (∀ n o f l i, exec (.stageWindow p .selectRises n o f l i) s = .next (staged (stageWindowWrite n o f l i)))
      ∧ (∀ i n os, (n.toNat ≤ 16 → n.toNat ≤ os.length) →
          exec (.stageShedList p .selectRises i n os) s = .next (staged (stageShedListWrite i n os)))
      ∧ (∀ m u f, exec (.stageModule p .selectRises m u f) s = .next (staged (stageModuleWrite m u f)))
      ∧ ∀ t l k, exec (.stageTiming p .selectRises t l k) s = .next (staged (stageTimingWrite t l k)))
  ∧ (∀ c : Configuration,
        (∀ (i a : Byte) (k l q r : Word) (h d y x : Byte) (c' : Configuration),
            stageTenantWrite i a k l q r h d y x c = some c' ↔
              ∃ (t : TenantId) (g : Contract), t.val = i.toNat ∧ g.inRange
                ∧ c' = { c with contracts := c.contracts.set t g }
                ∧ (if g.active then 1 else 0) = a.toNat ∧ g.committed = k.toNat ∧ g.ceiling = l.toNat
                ∧ g.qmax = q.toNat ∧ g.restore = r.toNat ∧ g.shift = h.toNat ∧ g.dwell = d.toNat
                ∧ g.policy.code = y ∧ g.cls.code = x)
        ∧ (∀ (n o : Byte) (f l : BitVec 16) (i : Byte) (c' : Configuration),
            stageWindowWrite n o f l i c = some c' ↔
              ∃ w : WindowSlot, w.val = n.toNat
                ∧ ((o = 0 ∧ c' = { c with windows := c.windows.set w none })
                  ∨ (o = 1 ∧ f.toNat ≤ l.toNat ∧ ∃ v : Window, v.first.val = f.toNat ∧ v.last.val = l.toNat
                      ∧ v.tenant.val = i.toNat ∧ c' = { c with windows := c.windows.set w (some v) })))
        ∧ (∀ (i n : Byte) (os : List (BitVec 16)) (c' : Configuration),
            stageShedListWrite i n os c = some c' ↔
              n.toNat ≤ 16 ∧ ∃ (t : TenantId) (ls : List OutletId), t.val = i.toNat
                ∧ ls.map (·.val) = (os.take n.toNat).map (·.toNat) ∧ c' = { c with lists := c.lists.set t ls })
        ∧ (∀ (m u f : Byte) (c' : Configuration),
            stageModuleWrite m u f c = some c' ↔
              ∃ (k : ModuleId) (g : ModuleConfig), k.val = m.toNat ∧ (if g.used then 1 else 0) = u.toNat ∧ g.feed.code = f
                ∧ c' = { c with modules := c.modules.set k g })
        ∧ ∀ (t : Byte) (l : BitVec 16) (k : Byte) (c' : Configuration),
            stageTimingWrite t l k c = some c' ↔
              ∃ g : Timing, g.inRange ∧ g.period = t.toNat ∧ g.length = l.toNat ∧ g.timeout = k.toNat
                ∧ c' = { c with timing := g })

/-- Validation reports the first of the six checks to fail with its first item, in the order timing, contracts, windows,
class and feed, shed lists, pool, and passes exactly where every relation holds: each check, at each item, is reported
exactly where it fails there, every lower item of it passes and every earlier check passes. Two windows overlap where each
begins no later than the other ends, which for windows of one outlet or more is that they share an outlet. -/
def Obligations.ValidationChecksInOrder : Prop :=
  ∀ c : Configuration,
    let owner (o : OutletId) (i : TenantId) : Prop :=
      ∃ n w, c.windows.get n = some w ∧ w.tenant = i ∧ w.first ≤ o ∧ o ≤ w.last
    let timing : Prop := c.timing.length % c.timing.period ≠ 0
    let contract (i : TenantId) : Prop :=
      (c.contracts.get i).active = true
        ∧ ((c.contracts.get i).ceiling < (c.contracts.get i).committed
          ∨ (c.contracts.get i).qmax < (c.contracts.get i).restore)
    let window (n : WindowSlot) : Prop :=
      ∃ w, c.windows.get n = some w
        ∧ ((c.contracts.get w.tenant).active = false
          ∨ ∃ k v, k < n ∧ c.windows.get k = some v ∧ w.first ≤ v.last ∧ v.first ≤ w.last)
    let feed (o : OutletId) : Prop :=
      (c.modules.get (moduleOfOutlet o)).used = true
        ∧ ∃ i, owner o i
          ∧ ((c.contracts.get i).cls = .singleA ∧ (c.modules.get (moduleOfOutlet o)).feed = .b
            ∨ (c.contracts.get i).cls = .singleB ∧ (c.modules.get (moduleOfOutlet o)).feed = .a)
    let list (i : TenantId) : Prop :=
      ((c.contracts.get i).active = false ∧ c.lists.get i ≠ []) ∨ ¬ (c.lists.get i).Nodup
        ∨ ∃ o ∈ c.lists.get i, ¬ owner o i
    let pool (i : TenantId) : Prop := 512 < ((c.lists.list.take (i.val + 1)).map (·.length)).sum
    (c.validate = none ↔ ¬ timing ∧ (∀ i, ¬ contract i) ∧ (∀ n, ¬ window n) ∧ (∀ o, ¬ feed o) ∧ (∀ i, ¬ list i)
        ∧ ∀ i, ¬ pool i)
    ∧ (c.validate = some { check := 1, item := 0 } ↔ timing)
    ∧ (∀ i : TenantId, c.validate = some { check := 2, item := i.val } ↔
        ¬ timing ∧ contract i ∧ ∀ j < i, ¬ contract j)
    ∧ (∀ n : WindowSlot, c.validate = some { check := 3, item := n.val } ↔
        ¬ timing ∧ (∀ i, ¬ contract i) ∧ window n ∧ ∀ k < n, ¬ window k)
    ∧ (∀ o : OutletId, c.validate = some { check := 4, item := o.val } ↔
        ¬ timing ∧ (∀ i, ¬ contract i) ∧ (∀ n, ¬ window n) ∧ feed o ∧ ∀ x < o, ¬ feed x)
    ∧ (∀ i : TenantId, c.validate = some { check := 5, item := i.val } ↔
        ¬ timing ∧ (∀ j, ¬ contract j) ∧ (∀ n, ¬ window n) ∧ (∀ o, ¬ feed o) ∧ list i ∧ ∀ j < i, ¬ list j)
    ∧ (∀ i : TenantId, c.validate = some { check := 6, item := i.val } ↔
        ¬ timing ∧ (∀ j, ¬ contract j) ∧ (∀ n, ¬ window n) ∧ (∀ o, ¬ feed o) ∧ (∀ j, ¬ list j)
          ∧ pool i ∧ ∀ j < i, ¬ pool j)
    ∧ (∀ r, c.validate = some r → 1 ≤ r.check ∧ r.check ≤ 6)
    ∧ ∀ w v : Window, w.first ≤ w.last → v.first ≤ v.last →
        ((w.first ≤ v.last ∧ v.first ≤ w.last) ↔ ∃ o, w.first ≤ o ∧ o ≤ w.last ∧ v.first ≤ o ∧ o ≤ v.last)

/-! ### Curtailment and early close -/

/-- SET_OUTLET by the cases of R92 in their order: BUSY in a close, RANGE, CURTAILED, OUTLET_BUSY, adoption of an outlet
already where it is asked to be, BUSY with 32 entries, else a PENDING entry of the port's origin at the tail; every OK
clears the outlet's fault flag, and a refusal changes nothing but the last result. -/
def Obligations.SetOutletByCases : Prop :=
  ∀ (p : Port) (outlet : BitVec 16) (action : Byte) (s : State), s.role p = .facility →
    let command := exec (.setOutlet p .selectRises outlet action) s
    let ok := s.answer p .ok id
    let cleared (o : OutletId) := s.outlets.modify o fun x => { x with fault := false }
    (s.closer.close ≠ .idle → command = .next (s.refuse p .busy))
    ∧ (s.closer.close = .idle → 383 < outlet.toNat ∨ 1 < action.toNat → command = .next (s.refuse p .range))
    ∧ ∀ o : OutletId, s.closer.close = .idle → outlet.toNat = o.val → action.toNat ≤ 1 →
        if s.used (moduleOfOutlet o) = false then command = .next (s.refuse p .range)
        else if (s.outlets.get o).cause = .shed then command = .next (s.refuse p .curtailed)
        else if ∃ e ∈ s.queue, e.outlet = o then command = .next (s.refuse p .outletBusy)
        else if action.toNat = 0 ∧ (s.outlets.get o).relay = .opened then
          command = .next { ok with outlets := s.outlets.modify o fun x => { x with cause := .admin, fault := false } }
        else if action.toNat = 1 ∧ (s.outlets.get o).relay = .closed then
          command = .next { ok with outlets := cleared o }
        else if 32 ≤ s.queue.length then command = .next (s.refuse p .busy)
        else
          command = .next
            { ok with
              outlets := cleared o
              queue := s.queue ++
                [{ outlet := o, action := if action.toNat = 0 then .opening else .closing, origin := .port p
                   state := .pending, stale := .clear, offered := false }] }

/-- RESTORE_TENANT sets an ACTIVE tenant's credit to its Qmax and, where its stack is not empty, its state to
RESTORING; a VACANT tenant or an index above 63 is refused RANGE, and in a close it is BUSY. END_INTERVAL is
refused NONE_OPEN in an UNCONFIGURED part and BUSY in a close. Else with the space short it is refused RING_FULL
with the set left SEALED, and with room an early close starts at this second that takes the SEALED set, OK. The records
it drops for its room leave the ring and free their slots (a free slot holds nothing, log entry 11); a port whose cursor names one of them has it moved to the
oldest record that stays, or with none to the record being written, its skipped count rises by the dropped records at or
after the cursor, and RECORDS_SKIPPED is raised in it; every other port's delivery state is as it was. -/
def Obligations.RestoreTenantAndEndInterval : Prop :=
  (∀ (p : Port) (tenant : Byte) (s : State), s.role p = .facility →
      (s.closer.close ≠ .idle → exec (.restoreTenant p .selectRises tenant) s = .next (s.refuse p .busy))
      ∧ (s.closer.close = .idle → 63 < tenant.toNat →
          exec (.restoreTenant p .selectRises tenant) s = .next (s.refuse p .range))
      ∧ ∀ i : TenantId, s.closer.close = .idle → tenant.toNat = i.val →
          exec (.restoreTenant p .selectRises tenant) s = .next
            (if (s.contract i).active = true then
              { s.answer p .ok id with
                live := s.live.modify i fun l =>
                  { l with
                    credit := (s.contract i).qmax
                    curtailment := if l.stack = [] then l.curtailment else .restoring } }
            else s.refuse p .range))
  ∧ (∀ (p : Port) (s : State), s.role p = .facility →
        (s.run = .unconfigured → exec (.endInterval p .selectRises) s = .next (s.refuse p .noneOpen))
        ∧ (s.run = .running → s.closer.close ≠ .idle →
            exec (.endInterval p .selectRises) s = .next (s.refuse p .busy))
        ∧ (s.run = .running → s.closer.close = .idle → s.ring.free + s.releasable < 2 + s.activeCount →
            exec (.endInterval p .selectRises) s = .next (s.refuse p .ringFull))
        ∧ (s.run = .running → s.closer.close = .idle → 2 + s.activeCount ≤ s.ring.free + s.releasable →
            ∃ t, exec (.endInterval p .selectRises) s = .next t
              ∧ t.closer = { s.closer with
                  close := .closing
                    { step := .build, early := true, closeSecond := s.seconds
                      taken := match s.claim with | .sealed c => some c | _ => none } }
              ∧ (t.ports.get p).result = .ok
              ∧ t = { s with closer := t.closer, claim := t.claim, ports := t.ports, ring := t.ring }
              ∧ let (gone, stay) := dropFor s.held (2 + s.activeCount) s.ring.free s.ring.records
                t.ring = { s.ring with records := stay, slots := t.ring.slots }
                ∧ (∀ n, n < 2048 →
                    ((∃ r ∈ gone, ∃ k, k < r.length ∧ n = (r.start + k) % 2048) → readSlot t.ring.slots n = none)
                    ∧ ((¬ ∃ r ∈ gone, ∃ k, k < r.length ∧ n = (r.start + k) % 2048) →
                        readSlot t.ring.slots n = readSlot s.ring.slots n))
                ∧ ∀ q, s.role q ≠ .disabled →
                    let x := s.ports.get q
                    let y := t.ports.get q
                    (∀ cursor, x.delivery.cursor? = some cursor → (∃ r ∈ gone, r.sequence = cursor) →
                      y.delivery = x.delivery.withCursor
                        (match stay with | r :: _ => r.sequence | [] => s.closer.sequence)
                      ∧ y.skipped = min 65535 (x.skipped + gone.countP fun r => !later cursor r.sequence)
                      ∧ y.notices = x.notices ||| Notice.recordsSkipped.bit)
                    ∧ ((∀ cursor, x.delivery.cursor? = some cursor → ∀ r ∈ gone, r.sequence ≠ cursor) →
                      y.delivery = x.delivery ∧ y.skipped = x.skipped ∧ y.notices = x.notices)))
end

