-- ==== Sys2Proof/Laws/Accounting.lean ====
section
/-!
SUPPORT. When an accounting may be taken, and what the completion of a close does, each said once.
-/

namespace Sys2Proof.Machine.State

variable {s : State} {w : Sweep}

theorem accountable?_eq_some : s.accountable? = some w ↔ s.sweep = some w ∧ w.finished = true ∧ s.closer.close = .idle := by
  unfold accountable?
  split
  · rename_i w' h1 h2
    simp only [h1, h2, Option.some.injEq, and_true]
    split
    · rename_i hf
      simp only [Option.some.injEq]
      exact ⟨fun h => ⟨h, h ▸ hf⟩, And.left⟩
    · rename_i hf
      simp only [reduceCtorEq, false_iff, not_and]
      rintro rfl
      exact hf
  · rename_i h
    simp only [reduceCtorEq, false_iff, not_and]
    intro h1 _ h2
    exact h w h1 h2

/-- An accounting is taken where a sweep's polls are finished and no close is in flight (R28). -/
theorem takeAccounting_of_finished (h : s.sweep = some w) (hf : w.finished = true) (hc : s.closer.close = .idle) :
    s.takeAccounting = s.accountSweep w := by
  simp [takeAccounting, accountable?_eq_some.mpr ⟨h, hf, hc⟩]

/-- Else nothing happens. -/
theorem takeAccounting_of_waiting
    (h : s.sweep = none ∨ (∃ w, s.sweep = some w ∧ w.finished = false) ∨ s.closer.close ≠ .idle) :
    s.takeAccounting = s := by
  have hn : s.accountable? = none := by
    rw [Option.eq_none_iff_forall_ne_some]
    intro w hw
    obtain ⟨h1, h2, h3⟩ := accountable?_eq_some.mp hw
    rcases h with h | ⟨x, h, hx⟩ | h
    · rw [h1] at h; cases h
    · rw [h1] at h; cases h; rw [h2] at hx; cases hx
    · exact h h3
  simp [takeAccounting, hn]

/-- Step 6 of a close: nothing where it is not what comes next, else the completion and the accounting that waited (R125). -/
theorem finishClose_eq :
    s.finishClose = if (s.closeAt .complete).isSome then s.completeClose.takeAccounting.takeAccounting else s := by
  unfold finishClose
  cases s.closeAt .complete <;> rfl

end Sys2Proof.Machine.State
end

