-- ==== Sys2Proof/Laws/State.lean ====
section
/-!
SUPPORT. One lemma per field per update of the state, so that no proof unfolds a record update.
-/

namespace Sys2Proof.Machine.State

variable (s : State)


/-! ### updPort -/

@[simp] theorem updPort_pins (p : Port) (f : PortState → PortState) : (s.updPort p f).pins = s.pins := rfl
@[simp] theorem updPort_run (p : Port) (f : PortState → PortState) : (s.updPort p f).run = s.run := rfl
@[simp] theorem updPort_seconds (p : Port) (f : PortState → PortState) : (s.updPort p f).seconds = s.seconds := rfl
@[simp] theorem updPort_nextDue (p : Port) (f : PortState → PortState) : (s.updPort p f).nextDue = s.nextDue := rfl
@[simp] theorem updPort_late (p : Port) (f : PortState → PortState) : (s.updPort p f).late = s.late := rfl
@[simp] theorem updPort_sweep (p : Port) (f : PortState → PortState) : (s.updPort p f).sweep = s.sweep := rfl
@[simp] theorem updPort_link (p : Port) (f : PortState → PortState) : (s.updPort p f).link = s.link := rfl
@[simp] theorem updPort_modules (p : Port) (f : PortState → PortState) : (s.updPort p f).modules = s.modules := rfl
@[simp] theorem updPort_outlets (p : Port) (f : PortState → PortState) : (s.updPort p f).outlets = s.outlets := rfl
@[simp] theorem updPort_committed (p : Port) (f : PortState → PortState) :
    (s.updPort p f).committed = s.committed := rfl
@[simp] theorem updPort_attribution (p : Port) (f : PortState → PortState) :
    (s.updPort p f).attribution = s.attribution := rfl
@[simp] theorem updPort_live (p : Port) (f : PortState → PortState) : (s.updPort p f).live = s.live := rfl
@[simp] theorem updPort_accruals (p : Port) (f : PortState → PortState) : (s.updPort p f).accruals = s.accruals := rfl
@[simp] theorem updPort_house (p : Port) (f : PortState → PortState) : (s.updPort p f).house = s.house := rfl
@[simp] theorem updPort_queue (p : Port) (f : PortState → PortState) : (s.updPort p f).queue = s.queue := rfl
@[simp] theorem updPort_closer (p : Port) (f : PortState → PortState) : (s.updPort p f).closer = s.closer := rfl
@[simp] theorem updPort_ring (p : Port) (f : PortState → PortState) : (s.updPort p f).ring = s.ring := rfl
@[simp] theorem updPort_claim (p : Port) (f : PortState → PortState) : (s.updPort p f).claim = s.claim := rfl
@[simp] theorem updPort_report (p : Port) (f : PortState → PortState) : (s.updPort p f).report = s.report := rfl
@[simp] theorem updPort_ports (p : Port) (f : PortState → PortState) :
    (s.updPort p f).ports = s.ports.modify p f := rfl
@[simp] theorem updPort_pending (p : Port) (f : PortState → PortState) : (s.updPort p f).pending = s.pending := rfl

/-! ### updLive -/

@[simp] theorem updLive_pins (i : TenantId) (f : Live → Live) : (s.updLive i f).pins = s.pins := rfl
@[simp] theorem updLive_run (i : TenantId) (f : Live → Live) : (s.updLive i f).run = s.run := rfl
@[simp] theorem updLive_seconds (i : TenantId) (f : Live → Live) : (s.updLive i f).seconds = s.seconds := rfl
@[simp] theorem updLive_nextDue (i : TenantId) (f : Live → Live) : (s.updLive i f).nextDue = s.nextDue := rfl
@[simp] theorem updLive_late (i : TenantId) (f : Live → Live) : (s.updLive i f).late = s.late := rfl
@[simp] theorem updLive_sweep (i : TenantId) (f : Live → Live) : (s.updLive i f).sweep = s.sweep := rfl
@[simp] theorem updLive_link (i : TenantId) (f : Live → Live) : (s.updLive i f).link = s.link := rfl
@[simp] theorem updLive_modules (i : TenantId) (f : Live → Live) : (s.updLive i f).modules = s.modules := rfl
@[simp] theorem updLive_outlets (i : TenantId) (f : Live → Live) : (s.updLive i f).outlets = s.outlets := rfl
@[simp] theorem updLive_committed (i : TenantId) (f : Live → Live) : (s.updLive i f).committed = s.committed := rfl
@[simp] theorem updLive_attribution (i : TenantId) (f : Live → Live) :
    (s.updLive i f).attribution = s.attribution := rfl
@[simp] theorem updLive_live (i : TenantId) (f : Live → Live) : (s.updLive i f).live = s.live.modify i f := rfl
@[simp] theorem updLive_accruals (i : TenantId) (f : Live → Live) : (s.updLive i f).accruals = s.accruals := rfl
@[simp] theorem updLive_house (i : TenantId) (f : Live → Live) : (s.updLive i f).house = s.house := rfl
@[simp] theorem updLive_queue (i : TenantId) (f : Live → Live) : (s.updLive i f).queue = s.queue := rfl
@[simp] theorem updLive_closer (i : TenantId) (f : Live → Live) : (s.updLive i f).closer = s.closer := rfl
@[simp] theorem updLive_ring (i : TenantId) (f : Live → Live) : (s.updLive i f).ring = s.ring := rfl
@[simp] theorem updLive_claim (i : TenantId) (f : Live → Live) : (s.updLive i f).claim = s.claim := rfl
@[simp] theorem updLive_report (i : TenantId) (f : Live → Live) : (s.updLive i f).report = s.report := rfl
@[simp] theorem updLive_ports (i : TenantId) (f : Live → Live) : (s.updLive i f).ports = s.ports := rfl
@[simp] theorem updLive_pending (i : TenantId) (f : Live → Live) : (s.updLive i f).pending = s.pending := rfl

/-! ### updAccrual -/

@[simp] theorem updAccrual_pins (i : TenantId) (f : Accumulators → Accumulators) :
    (s.updAccrual i f).pins = s.pins := rfl
@[simp] theorem updAccrual_run (i : TenantId) (f : Accumulators → Accumulators) :
    (s.updAccrual i f).run = s.run := rfl
@[simp] theorem updAccrual_seconds (i : TenantId) (f : Accumulators → Accumulators) :
    (s.updAccrual i f).seconds = s.seconds := rfl
@[simp] theorem updAccrual_nextDue (i : TenantId) (f : Accumulators → Accumulators) :
    (s.updAccrual i f).nextDue = s.nextDue := rfl
@[simp] theorem updAccrual_late (i : TenantId) (f : Accumulators → Accumulators) :
    (s.updAccrual i f).late = s.late := rfl
@[simp] theorem updAccrual_sweep (i : TenantId) (f : Accumulators → Accumulators) :
    (s.updAccrual i f).sweep = s.sweep := rfl
@[simp] theorem updAccrual_link (i : TenantId) (f : Accumulators → Accumulators) :
    (s.updAccrual i f).link = s.link := rfl
@[simp] theorem updAccrual_modules (i : TenantId) (f : Accumulators → Accumulators) :
    (s.updAccrual i f).modules = s.modules := rfl
@[simp] theorem updAccrual_outlets (i : TenantId) (f : Accumulators → Accumulators) :
    (s.updAccrual i f).outlets = s.outlets := rfl
@[simp] theorem updAccrual_committed (i : TenantId) (f : Accumulators → Accumulators) :
    (s.updAccrual i f).committed = s.committed := rfl
@[simp] theorem updAccrual_attribution (i : TenantId) (f : Accumulators → Accumulators) :
    (s.updAccrual i f).attribution = s.attribution := rfl
@[simp] theorem updAccrual_live (i : TenantId) (f : Accumulators → Accumulators) :
    (s.updAccrual i f).live = s.live := rfl
@[simp] theorem updAccrual_accruals (i : TenantId) (f : Accumulators → Accumulators) :
    (s.updAccrual i f).accruals = s.accruals.modify i f := rfl
@[simp] theorem updAccrual_house (i : TenantId) (f : Accumulators → Accumulators) :
    (s.updAccrual i f).house = s.house := rfl
@[simp] theorem updAccrual_queue (i : TenantId) (f : Accumulators → Accumulators) :
    (s.updAccrual i f).queue = s.queue := rfl
@[simp] theorem updAccrual_closer (i : TenantId) (f : Accumulators → Accumulators) :
    (s.updAccrual i f).closer = s.closer := rfl
@[simp] theorem updAccrual_ring (i : TenantId) (f : Accumulators → Accumulators) :
    (s.updAccrual i f).ring = s.ring := rfl
@[simp] theorem updAccrual_claim (i : TenantId) (f : Accumulators → Accumulators) :
    (s.updAccrual i f).claim = s.claim := rfl
@[simp] theorem updAccrual_report (i : TenantId) (f : Accumulators → Accumulators) :
    (s.updAccrual i f).report = s.report := rfl
@[simp] theorem updAccrual_ports (i : TenantId) (f : Accumulators → Accumulators) :
    (s.updAccrual i f).ports = s.ports := rfl
@[simp] theorem updAccrual_pending (i : TenantId) (f : Accumulators → Accumulators) :
    (s.updAccrual i f).pending = s.pending := rfl

/-! ### updOutlet -/

@[simp] theorem updOutlet_pins (o : OutletId) (f : Outlet → Outlet) : (s.updOutlet o f).pins = s.pins := rfl
@[simp] theorem updOutlet_run (o : OutletId) (f : Outlet → Outlet) : (s.updOutlet o f).run = s.run := rfl
@[simp] theorem updOutlet_seconds (o : OutletId) (f : Outlet → Outlet) : (s.updOutlet o f).seconds = s.seconds := rfl
@[simp] theorem updOutlet_nextDue (o : OutletId) (f : Outlet → Outlet) : (s.updOutlet o f).nextDue = s.nextDue := rfl
@[simp] theorem updOutlet_late (o : OutletId) (f : Outlet → Outlet) : (s.updOutlet o f).late = s.late := rfl
@[simp] theorem updOutlet_sweep (o : OutletId) (f : Outlet → Outlet) : (s.updOutlet o f).sweep = s.sweep := rfl
@[simp] theorem updOutlet_link (o : OutletId) (f : Outlet → Outlet) : (s.updOutlet o f).link = s.link := rfl
@[simp] theorem updOutlet_modules (o : OutletId) (f : Outlet → Outlet) : (s.updOutlet o f).modules = s.modules := rfl
@[simp] theorem updOutlet_outlets (o : OutletId) (f : Outlet → Outlet) :
    (s.updOutlet o f).outlets = s.outlets.modify o f := rfl
@[simp] theorem updOutlet_committed (o : OutletId) (f : Outlet → Outlet) :
    (s.updOutlet o f).committed = s.committed := rfl
@[simp] theorem updOutlet_attribution (o : OutletId) (f : Outlet → Outlet) :
    (s.updOutlet o f).attribution = s.attribution := rfl
@[simp] theorem updOutlet_live (o : OutletId) (f : Outlet → Outlet) : (s.updOutlet o f).live = s.live := rfl
@[simp] theorem updOutlet_accruals (o : OutletId) (f : Outlet → Outlet) :
    (s.updOutlet o f).accruals = s.accruals := rfl
@[simp] theorem updOutlet_house (o : OutletId) (f : Outlet → Outlet) : (s.updOutlet o f).house = s.house := rfl
@[simp] theorem updOutlet_queue (o : OutletId) (f : Outlet → Outlet) : (s.updOutlet o f).queue = s.queue := rfl
@[simp] theorem updOutlet_closer (o : OutletId) (f : Outlet → Outlet) : (s.updOutlet o f).closer = s.closer := rfl
@[simp] theorem updOutlet_ring (o : OutletId) (f : Outlet → Outlet) : (s.updOutlet o f).ring = s.ring := rfl
@[simp] theorem updOutlet_claim (o : OutletId) (f : Outlet → Outlet) : (s.updOutlet o f).claim = s.claim := rfl
@[simp] theorem updOutlet_report (o : OutletId) (f : Outlet → Outlet) : (s.updOutlet o f).report = s.report := rfl
@[simp] theorem updOutlet_ports (o : OutletId) (f : Outlet → Outlet) : (s.updOutlet o f).ports = s.ports := rfl
@[simp] theorem updOutlet_pending (o : OutletId) (f : Outlet → Outlet) : (s.updOutlet o f).pending = s.pending := rfl

/-! ### updModule -/

@[simp] theorem updModule_pins (m : ModuleId) (f : ModuleLive → ModuleLive) : (s.updModule m f).pins = s.pins := rfl
@[simp] theorem updModule_run (m : ModuleId) (f : ModuleLive → ModuleLive) : (s.updModule m f).run = s.run := rfl
@[simp] theorem updModule_seconds (m : ModuleId) (f : ModuleLive → ModuleLive) :
    (s.updModule m f).seconds = s.seconds := rfl
@[simp] theorem updModule_nextDue (m : ModuleId) (f : ModuleLive → ModuleLive) :
    (s.updModule m f).nextDue = s.nextDue := rfl
@[simp] theorem updModule_late (m : ModuleId) (f : ModuleLive → ModuleLive) : (s.updModule m f).late = s.late := rfl
@[simp] theorem updModule_sweep (m : ModuleId) (f : ModuleLive → ModuleLive) :
    (s.updModule m f).sweep = s.sweep := rfl
@[simp] theorem updModule_link (m : ModuleId) (f : ModuleLive → ModuleLive) : (s.updModule m f).link = s.link := rfl
@[simp] theorem updModule_modules (m : ModuleId) (f : ModuleLive → ModuleLive) :
    (s.updModule m f).modules = s.modules.modify m f := rfl
@[simp] theorem updModule_outlets (m : ModuleId) (f : ModuleLive → ModuleLive) :
    (s.updModule m f).outlets = s.outlets := rfl
@[simp] theorem updModule_committed (m : ModuleId) (f : ModuleLive → ModuleLive) :
    (s.updModule m f).committed = s.committed := rfl
@[simp] theorem updModule_attribution (m : ModuleId) (f : ModuleLive → ModuleLive) :
    (s.updModule m f).attribution = s.attribution := rfl
@[simp] theorem updModule_live (m : ModuleId) (f : ModuleLive → ModuleLive) : (s.updModule m f).live = s.live := rfl
@[simp] theorem updModule_accruals (m : ModuleId) (f : ModuleLive → ModuleLive) :
    (s.updModule m f).accruals = s.accruals := rfl
@[simp] theorem updModule_house (m : ModuleId) (f : ModuleLive → ModuleLive) :
    (s.updModule m f).house = s.house := rfl
@[simp] theorem updModule_queue (m : ModuleId) (f : ModuleLive → ModuleLive) :
    (s.updModule m f).queue = s.queue := rfl
@[simp] theorem updModule_closer (m : ModuleId) (f : ModuleLive → ModuleLive) :
    (s.updModule m f).closer = s.closer := rfl
@[simp] theorem updModule_ring (m : ModuleId) (f : ModuleLive → ModuleLive) : (s.updModule m f).ring = s.ring := rfl
@[simp] theorem updModule_claim (m : ModuleId) (f : ModuleLive → ModuleLive) :
    (s.updModule m f).claim = s.claim := rfl
@[simp] theorem updModule_report (m : ModuleId) (f : ModuleLive → ModuleLive) :
    (s.updModule m f).report = s.report := rfl
@[simp] theorem updModule_ports (m : ModuleId) (f : ModuleLive → ModuleLive) :
    (s.updModule m f).ports = s.ports := rfl
@[simp] theorem updModule_pending (m : ModuleId) (f : ModuleLive → ModuleLive) :
    (s.updModule m f).pending = s.pending := rfl

/-! ### setCause -/

@[simp] theorem setCause_pins (o : OutletId) (c : Cause) : (s.setCause o c).pins = s.pins := rfl
@[simp] theorem setCause_run (o : OutletId) (c : Cause) : (s.setCause o c).run = s.run := rfl
@[simp] theorem setCause_seconds (o : OutletId) (c : Cause) : (s.setCause o c).seconds = s.seconds := rfl
@[simp] theorem setCause_nextDue (o : OutletId) (c : Cause) : (s.setCause o c).nextDue = s.nextDue := rfl
@[simp] theorem setCause_late (o : OutletId) (c : Cause) : (s.setCause o c).late = s.late := rfl
@[simp] theorem setCause_sweep (o : OutletId) (c : Cause) : (s.setCause o c).sweep = s.sweep := rfl
@[simp] theorem setCause_link (o : OutletId) (c : Cause) : (s.setCause o c).link = s.link := rfl
@[simp] theorem setCause_modules (o : OutletId) (c : Cause) : (s.setCause o c).modules = s.modules := rfl
@[simp] theorem setCause_outlets (o : OutletId) (c : Cause) :
    (s.setCause o c).outlets = s.outlets.modify o fun x => { x with cause := c } := rfl
@[simp] theorem setCause_committed (o : OutletId) (c : Cause) : (s.setCause o c).committed = s.committed := rfl
@[simp] theorem setCause_attribution (o : OutletId) (c : Cause) : (s.setCause o c).attribution = s.attribution := rfl
@[simp] theorem setCause_live (o : OutletId) (c : Cause) : (s.setCause o c).live = s.live := rfl
@[simp] theorem setCause_accruals (o : OutletId) (c : Cause) : (s.setCause o c).accruals = s.accruals := rfl
@[simp] theorem setCause_house (o : OutletId) (c : Cause) : (s.setCause o c).house = s.house := rfl
@[simp] theorem setCause_queue (o : OutletId) (c : Cause) : (s.setCause o c).queue = s.queue := rfl
@[simp] theorem setCause_closer (o : OutletId) (c : Cause) : (s.setCause o c).closer = s.closer := rfl
@[simp] theorem setCause_ring (o : OutletId) (c : Cause) : (s.setCause o c).ring = s.ring := rfl
@[simp] theorem setCause_claim (o : OutletId) (c : Cause) : (s.setCause o c).claim = s.claim := rfl
@[simp] theorem setCause_report (o : OutletId) (c : Cause) : (s.setCause o c).report = s.report := rfl
@[simp] theorem setCause_ports (o : OutletId) (c : Cause) : (s.setCause o c).ports = s.ports := rfl
@[simp] theorem setCause_pending (o : OutletId) (c : Cause) : (s.setCause o c).pending = s.pending := rfl

/-! ### updCloser -/

@[simp] theorem updCloser_pins (f : Closer → Closer) : (s.updCloser f).pins = s.pins := rfl
@[simp] theorem updCloser_run (f : Closer → Closer) : (s.updCloser f).run = s.run := rfl
@[simp] theorem updCloser_seconds (f : Closer → Closer) : (s.updCloser f).seconds = s.seconds := rfl
@[simp] theorem updCloser_nextDue (f : Closer → Closer) : (s.updCloser f).nextDue = s.nextDue := rfl
@[simp] theorem updCloser_late (f : Closer → Closer) : (s.updCloser f).late = s.late := rfl
@[simp] theorem updCloser_sweep (f : Closer → Closer) : (s.updCloser f).sweep = s.sweep := rfl
@[simp] theorem updCloser_link (f : Closer → Closer) : (s.updCloser f).link = s.link := rfl
@[simp] theorem updCloser_modules (f : Closer → Closer) : (s.updCloser f).modules = s.modules := rfl
@[simp] theorem updCloser_outlets (f : Closer → Closer) : (s.updCloser f).outlets = s.outlets := rfl
@[simp] theorem updCloser_committed (f : Closer → Closer) : (s.updCloser f).committed = s.committed := rfl
@[simp] theorem updCloser_attribution (f : Closer → Closer) : (s.updCloser f).attribution = s.attribution := rfl
@[simp] theorem updCloser_live (f : Closer → Closer) : (s.updCloser f).live = s.live := rfl
@[simp] theorem updCloser_accruals (f : Closer → Closer) : (s.updCloser f).accruals = s.accruals := rfl
@[simp] theorem updCloser_house (f : Closer → Closer) : (s.updCloser f).house = s.house := rfl
@[simp] theorem updCloser_queue (f : Closer → Closer) : (s.updCloser f).queue = s.queue := rfl
@[simp] theorem updCloser_closer (f : Closer → Closer) : (s.updCloser f).closer = f s.closer := rfl
@[simp] theorem updCloser_ring (f : Closer → Closer) : (s.updCloser f).ring = s.ring := rfl
@[simp] theorem updCloser_claim (f : Closer → Closer) : (s.updCloser f).claim = s.claim := rfl
@[simp] theorem updCloser_report (f : Closer → Closer) : (s.updCloser f).report = s.report := rfl
@[simp] theorem updCloser_ports (f : Closer → Closer) : (s.updCloser f).ports = s.ports := rfl
@[simp] theorem updCloser_pending (f : Closer → Closer) : (s.updCloser f).pending = s.pending := rfl

/-! ### raiseIn -/

@[simp] theorem raiseIn_pins (n : Notice) (who : Port → Bool) : (s.raiseIn n who).pins = s.pins := rfl
@[simp] theorem raiseIn_run (n : Notice) (who : Port → Bool) : (s.raiseIn n who).run = s.run := rfl
@[simp] theorem raiseIn_seconds (n : Notice) (who : Port → Bool) : (s.raiseIn n who).seconds = s.seconds := rfl
@[simp] theorem raiseIn_nextDue (n : Notice) (who : Port → Bool) : (s.raiseIn n who).nextDue = s.nextDue := rfl
@[simp] theorem raiseIn_late (n : Notice) (who : Port → Bool) : (s.raiseIn n who).late = s.late := rfl
@[simp] theorem raiseIn_sweep (n : Notice) (who : Port → Bool) : (s.raiseIn n who).sweep = s.sweep := rfl
@[simp] theorem raiseIn_link (n : Notice) (who : Port → Bool) : (s.raiseIn n who).link = s.link := rfl
@[simp] theorem raiseIn_modules (n : Notice) (who : Port → Bool) : (s.raiseIn n who).modules = s.modules := rfl
@[simp] theorem raiseIn_outlets (n : Notice) (who : Port → Bool) : (s.raiseIn n who).outlets = s.outlets := rfl
@[simp] theorem raiseIn_committed (n : Notice) (who : Port → Bool) : (s.raiseIn n who).committed = s.committed := rfl
@[simp] theorem raiseIn_attribution (n : Notice) (who : Port → Bool) :
    (s.raiseIn n who).attribution = s.attribution := rfl
@[simp] theorem raiseIn_live (n : Notice) (who : Port → Bool) : (s.raiseIn n who).live = s.live := rfl
@[simp] theorem raiseIn_accruals (n : Notice) (who : Port → Bool) : (s.raiseIn n who).accruals = s.accruals := rfl
@[simp] theorem raiseIn_house (n : Notice) (who : Port → Bool) : (s.raiseIn n who).house = s.house := rfl
@[simp] theorem raiseIn_queue (n : Notice) (who : Port → Bool) : (s.raiseIn n who).queue = s.queue := rfl
@[simp] theorem raiseIn_closer (n : Notice) (who : Port → Bool) : (s.raiseIn n who).closer = s.closer := rfl
@[simp] theorem raiseIn_ring (n : Notice) (who : Port → Bool) : (s.raiseIn n who).ring = s.ring := rfl
@[simp] theorem raiseIn_claim (n : Notice) (who : Port → Bool) : (s.raiseIn n who).claim = s.claim := rfl
@[simp] theorem raiseIn_report (n : Notice) (who : Port → Bool) : (s.raiseIn n who).report = s.report := rfl
@[simp] theorem raiseIn_ports (n : Notice) (who : Port → Bool) :
    (s.raiseIn n who).ports =
      s.ports.imap fun p q => if who p && !(s.role p == .disabled) then q.withNotice n else q := rfl
@[simp] theorem raiseIn_pending (n : Notice) (who : Port → Bool) : (s.raiseIn n who).pending = s.pending := rfl

/-! ### raise -/

@[simp] theorem raise_pins (n : Notice) : (s.raise n).pins = s.pins := rfl
@[simp] theorem raise_run (n : Notice) : (s.raise n).run = s.run := rfl
@[simp] theorem raise_seconds (n : Notice) : (s.raise n).seconds = s.seconds := rfl
@[simp] theorem raise_nextDue (n : Notice) : (s.raise n).nextDue = s.nextDue := rfl
@[simp] theorem raise_late (n : Notice) : (s.raise n).late = s.late := rfl
@[simp] theorem raise_sweep (n : Notice) : (s.raise n).sweep = s.sweep := rfl
@[simp] theorem raise_link (n : Notice) : (s.raise n).link = s.link := rfl
@[simp] theorem raise_modules (n : Notice) : (s.raise n).modules = s.modules := rfl
@[simp] theorem raise_outlets (n : Notice) : (s.raise n).outlets = s.outlets := rfl
@[simp] theorem raise_committed (n : Notice) : (s.raise n).committed = s.committed := rfl
@[simp] theorem raise_attribution (n : Notice) : (s.raise n).attribution = s.attribution := rfl
@[simp] theorem raise_live (n : Notice) : (s.raise n).live = s.live := rfl
@[simp] theorem raise_accruals (n : Notice) : (s.raise n).accruals = s.accruals := rfl
@[simp] theorem raise_house (n : Notice) : (s.raise n).house = s.house := rfl
@[simp] theorem raise_queue (n : Notice) : (s.raise n).queue = s.queue := rfl
@[simp] theorem raise_closer (n : Notice) : (s.raise n).closer = s.closer := rfl
@[simp] theorem raise_ring (n : Notice) : (s.raise n).ring = s.ring := rfl
@[simp] theorem raise_claim (n : Notice) : (s.raise n).claim = s.claim := rfl
@[simp] theorem raise_report (n : Notice) : (s.raise n).report = s.report := rfl
@[simp] theorem raise_ports (n : Notice) :
    (s.raise n).ports = s.ports.imap fun p q => if !(s.role p == .disabled) then q.withNotice n else q := rfl
@[simp] theorem raise_pending (n : Notice) : (s.raise n).pending = s.pending := rfl

/-! ### claimChanged -/

@[simp] theorem claimChanged_pins (w : Port → Bool) : (s.claimChanged w).pins = s.pins := rfl
@[simp] theorem claimChanged_run (w : Port → Bool) : (s.claimChanged w).run = s.run := rfl
@[simp] theorem claimChanged_seconds (w : Port → Bool) : (s.claimChanged w).seconds = s.seconds := rfl
@[simp] theorem claimChanged_nextDue (w : Port → Bool) : (s.claimChanged w).nextDue = s.nextDue := rfl
@[simp] theorem claimChanged_late (w : Port → Bool) : (s.claimChanged w).late = s.late := rfl
@[simp] theorem claimChanged_sweep (w : Port → Bool) : (s.claimChanged w).sweep = s.sweep := rfl
@[simp] theorem claimChanged_link (w : Port → Bool) : (s.claimChanged w).link = s.link := rfl
@[simp] theorem claimChanged_modules (w : Port → Bool) : (s.claimChanged w).modules = s.modules := rfl
@[simp] theorem claimChanged_outlets (w : Port → Bool) : (s.claimChanged w).outlets = s.outlets := rfl
@[simp] theorem claimChanged_committed (w : Port → Bool) : (s.claimChanged w).committed = s.committed := rfl
@[simp] theorem claimChanged_attribution (w : Port → Bool) : (s.claimChanged w).attribution = s.attribution := rfl
@[simp] theorem claimChanged_live (w : Port → Bool) : (s.claimChanged w).live = s.live := rfl
@[simp] theorem claimChanged_accruals (w : Port → Bool) : (s.claimChanged w).accruals = s.accruals := rfl
@[simp] theorem claimChanged_house (w : Port → Bool) : (s.claimChanged w).house = s.house := rfl
@[simp] theorem claimChanged_queue (w : Port → Bool) : (s.claimChanged w).queue = s.queue := rfl
@[simp] theorem claimChanged_closer (w : Port → Bool) : (s.claimChanged w).closer = s.closer := rfl
@[simp] theorem claimChanged_ring (w : Port → Bool) : (s.claimChanged w).ring = s.ring := rfl
@[simp] theorem claimChanged_claim (w : Port → Bool) : (s.claimChanged w).claim = s.claim := rfl
@[simp] theorem claimChanged_report (w : Port → Bool) : (s.claimChanged w).report = s.report := rfl
@[simp] theorem claimChanged_pending (w : Port → Bool) : (s.claimChanged w).pending = s.pending := rfl

/-! ### updEntry -/

@[simp] theorem updEntry_pins (o : OutletId) (f : Entry → Entry) : (s.updEntry o f).pins = s.pins := rfl
@[simp] theorem updEntry_run (o : OutletId) (f : Entry → Entry) : (s.updEntry o f).run = s.run := rfl
@[simp] theorem updEntry_seconds (o : OutletId) (f : Entry → Entry) : (s.updEntry o f).seconds = s.seconds := rfl
@[simp] theorem updEntry_nextDue (o : OutletId) (f : Entry → Entry) : (s.updEntry o f).nextDue = s.nextDue := rfl
@[simp] theorem updEntry_late (o : OutletId) (f : Entry → Entry) : (s.updEntry o f).late = s.late := rfl
@[simp] theorem updEntry_sweep (o : OutletId) (f : Entry → Entry) : (s.updEntry o f).sweep = s.sweep := rfl
@[simp] theorem updEntry_link (o : OutletId) (f : Entry → Entry) : (s.updEntry o f).link = s.link := rfl
@[simp] theorem updEntry_modules (o : OutletId) (f : Entry → Entry) : (s.updEntry o f).modules = s.modules := rfl
@[simp] theorem updEntry_outlets (o : OutletId) (f : Entry → Entry) : (s.updEntry o f).outlets = s.outlets := rfl
@[simp] theorem updEntry_committed (o : OutletId) (f : Entry → Entry) :
    (s.updEntry o f).committed = s.committed := rfl
@[simp] theorem updEntry_attribution (o : OutletId) (f : Entry → Entry) :
    (s.updEntry o f).attribution = s.attribution := rfl
@[simp] theorem updEntry_live (o : OutletId) (f : Entry → Entry) : (s.updEntry o f).live = s.live := rfl
@[simp] theorem updEntry_accruals (o : OutletId) (f : Entry → Entry) : (s.updEntry o f).accruals = s.accruals := rfl
@[simp] theorem updEntry_house (o : OutletId) (f : Entry → Entry) : (s.updEntry o f).house = s.house := rfl
@[simp] theorem updEntry_queue (o : OutletId) (f : Entry → Entry) :
    (s.updEntry o f).queue = s.queue.map fun e => if e.outlet = o then f e else e := rfl
@[simp] theorem updEntry_closer (o : OutletId) (f : Entry → Entry) : (s.updEntry o f).closer = s.closer := rfl
@[simp] theorem updEntry_ring (o : OutletId) (f : Entry → Entry) : (s.updEntry o f).ring = s.ring := rfl
@[simp] theorem updEntry_claim (o : OutletId) (f : Entry → Entry) : (s.updEntry o f).claim = s.claim := rfl
@[simp] theorem updEntry_report (o : OutletId) (f : Entry → Entry) : (s.updEntry o f).report = s.report := rfl
@[simp] theorem updEntry_ports (o : OutletId) (f : Entry → Entry) : (s.updEntry o f).ports = s.ports := rfl
@[simp] theorem updEntry_pending (o : OutletId) (f : Entry → Entry) : (s.updEntry o f).pending = s.pending := rfl

/-! ### leaveStack -/

@[simp] theorem leaveStack_pins (o : OutletId) : (s.leaveStack o).pins = s.pins := rfl
@[simp] theorem leaveStack_run (o : OutletId) : (s.leaveStack o).run = s.run := rfl
@[simp] theorem leaveStack_seconds (o : OutletId) : (s.leaveStack o).seconds = s.seconds := rfl
@[simp] theorem leaveStack_nextDue (o : OutletId) : (s.leaveStack o).nextDue = s.nextDue := rfl
@[simp] theorem leaveStack_late (o : OutletId) : (s.leaveStack o).late = s.late := rfl
@[simp] theorem leaveStack_sweep (o : OutletId) : (s.leaveStack o).sweep = s.sweep := rfl
@[simp] theorem leaveStack_link (o : OutletId) : (s.leaveStack o).link = s.link := rfl
@[simp] theorem leaveStack_modules (o : OutletId) : (s.leaveStack o).modules = s.modules := rfl
@[simp] theorem leaveStack_outlets (o : OutletId) : (s.leaveStack o).outlets = s.outlets := rfl
@[simp] theorem leaveStack_committed (o : OutletId) : (s.leaveStack o).committed = s.committed := rfl
@[simp] theorem leaveStack_attribution (o : OutletId) : (s.leaveStack o).attribution = s.attribution := rfl
@[simp] theorem leaveStack_live (o : OutletId) :
    (s.leaveStack o).live = s.live.imap fun _ l => l.unstack (· == o) := rfl
@[simp] theorem leaveStack_accruals (o : OutletId) : (s.leaveStack o).accruals = s.accruals := rfl
@[simp] theorem leaveStack_house (o : OutletId) : (s.leaveStack o).house = s.house := rfl
@[simp] theorem leaveStack_queue (o : OutletId) : (s.leaveStack o).queue = s.queue := rfl
@[simp] theorem leaveStack_closer (o : OutletId) : (s.leaveStack o).closer = s.closer := rfl
@[simp] theorem leaveStack_ring (o : OutletId) : (s.leaveStack o).ring = s.ring := rfl
@[simp] theorem leaveStack_claim (o : OutletId) : (s.leaveStack o).claim = s.claim := rfl
@[simp] theorem leaveStack_report (o : OutletId) : (s.leaveStack o).report = s.report := rfl
@[simp] theorem leaveStack_ports (o : OutletId) : (s.leaveStack o).ports = s.ports := rfl
@[simp] theorem leaveStack_pending (o : OutletId) : (s.leaveStack o).pending = s.pending := rfl

/-! ### noteEstimates -/

@[simp] theorem noteEstimates_pins : s.noteEstimates.pins = s.pins := rfl
@[simp] theorem noteEstimates_run : s.noteEstimates.run = s.run := rfl
@[simp] theorem noteEstimates_seconds : s.noteEstimates.seconds = s.seconds := rfl
@[simp] theorem noteEstimates_nextDue : s.noteEstimates.nextDue = s.nextDue := rfl
@[simp] theorem noteEstimates_late : s.noteEstimates.late = s.late := rfl
@[simp] theorem noteEstimates_sweep : s.noteEstimates.sweep = s.sweep := rfl
@[simp] theorem noteEstimates_link : s.noteEstimates.link = s.link := rfl
@[simp] theorem noteEstimates_modules : s.noteEstimates.modules = s.modules := rfl
@[simp] theorem noteEstimates_outlets : s.noteEstimates.outlets = s.outlets := rfl
@[simp] theorem noteEstimates_committed : s.noteEstimates.committed = s.committed := rfl
@[simp] theorem noteEstimates_attribution : s.noteEstimates.attribution = s.attribution := rfl
@[simp] theorem noteEstimates_live : s.noteEstimates.live = s.live := rfl
@[simp] theorem noteEstimates_accruals : s.noteEstimates.accruals = s.accruals := rfl
@[simp] theorem noteEstimates_house : s.noteEstimates.house = s.house := rfl
@[simp] theorem noteEstimates_queue : s.noteEstimates.queue = s.queue := rfl
@[simp] theorem noteEstimates_closer : s.noteEstimates.closer = { s.closer with noteEstimates := true } := rfl
@[simp] theorem noteEstimates_ring : s.noteEstimates.ring = s.ring := rfl
@[simp] theorem noteEstimates_claim : s.noteEstimates.claim = s.claim := rfl
@[simp] theorem noteEstimates_report : s.noteEstimates.report = s.report := rfl
@[simp] theorem noteEstimates_ports : s.noteEstimates.ports = s.ports := rfl
@[simp] theorem noteEstimates_pending : s.noteEstimates.pending = s.pending := rfl

/-! ### clearFault -/

@[simp] theorem clearFault_pins (o : OutletId) : (s.clearFault o).pins = s.pins := rfl
@[simp] theorem clearFault_run (o : OutletId) : (s.clearFault o).run = s.run := rfl
@[simp] theorem clearFault_seconds (o : OutletId) : (s.clearFault o).seconds = s.seconds := rfl
@[simp] theorem clearFault_nextDue (o : OutletId) : (s.clearFault o).nextDue = s.nextDue := rfl
@[simp] theorem clearFault_late (o : OutletId) : (s.clearFault o).late = s.late := rfl
@[simp] theorem clearFault_sweep (o : OutletId) : (s.clearFault o).sweep = s.sweep := rfl
@[simp] theorem clearFault_link (o : OutletId) : (s.clearFault o).link = s.link := rfl
@[simp] theorem clearFault_modules (o : OutletId) : (s.clearFault o).modules = s.modules := rfl
@[simp] theorem clearFault_outlets (o : OutletId) :
    (s.clearFault o).outlets = s.outlets.modify o fun x => { x with fault := false } := rfl
@[simp] theorem clearFault_committed (o : OutletId) : (s.clearFault o).committed = s.committed := rfl
@[simp] theorem clearFault_attribution (o : OutletId) : (s.clearFault o).attribution = s.attribution := rfl
@[simp] theorem clearFault_live (o : OutletId) : (s.clearFault o).live = s.live := rfl
@[simp] theorem clearFault_accruals (o : OutletId) : (s.clearFault o).accruals = s.accruals := rfl
@[simp] theorem clearFault_house (o : OutletId) : (s.clearFault o).house = s.house := rfl
@[simp] theorem clearFault_queue (o : OutletId) : (s.clearFault o).queue = s.queue := rfl
@[simp] theorem clearFault_closer (o : OutletId) : (s.clearFault o).closer = s.closer := rfl
@[simp] theorem clearFault_ring (o : OutletId) : (s.clearFault o).ring = s.ring := rfl
@[simp] theorem clearFault_claim (o : OutletId) : (s.clearFault o).claim = s.claim := rfl
@[simp] theorem clearFault_report (o : OutletId) : (s.clearFault o).report = s.report := rfl
@[simp] theorem clearFault_ports (o : OutletId) : (s.clearFault o).ports = s.ports := rfl
@[simp] theorem clearFault_pending (o : OutletId) : (s.clearFault o).pending = s.pending := rfl

/-! ### beginFrame -/

@[simp] theorem beginFrame_pins (p : Port) : (s.beginFrame p).pins = s.pins := rfl
@[simp] theorem beginFrame_run (p : Port) : (s.beginFrame p).run = s.run := rfl
@[simp] theorem beginFrame_seconds (p : Port) : (s.beginFrame p).seconds = s.seconds := rfl
@[simp] theorem beginFrame_nextDue (p : Port) : (s.beginFrame p).nextDue = s.nextDue := rfl
@[simp] theorem beginFrame_late (p : Port) : (s.beginFrame p).late = s.late := rfl
@[simp] theorem beginFrame_sweep (p : Port) : (s.beginFrame p).sweep = s.sweep := rfl
@[simp] theorem beginFrame_link (p : Port) : (s.beginFrame p).link = s.link := rfl
@[simp] theorem beginFrame_modules (p : Port) : (s.beginFrame p).modules = s.modules := rfl
@[simp] theorem beginFrame_outlets (p : Port) : (s.beginFrame p).outlets = s.outlets := rfl
@[simp] theorem beginFrame_committed (p : Port) : (s.beginFrame p).committed = s.committed := rfl
@[simp] theorem beginFrame_attribution (p : Port) : (s.beginFrame p).attribution = s.attribution := rfl
@[simp] theorem beginFrame_live (p : Port) : (s.beginFrame p).live = s.live := rfl
@[simp] theorem beginFrame_accruals (p : Port) : (s.beginFrame p).accruals = s.accruals := rfl
@[simp] theorem beginFrame_house (p : Port) : (s.beginFrame p).house = s.house := rfl
@[simp] theorem beginFrame_queue (p : Port) : (s.beginFrame p).queue = s.queue := rfl
@[simp] theorem beginFrame_closer (p : Port) : (s.beginFrame p).closer = s.closer := rfl
@[simp] theorem beginFrame_ring (p : Port) : (s.beginFrame p).ring = s.ring := rfl
@[simp] theorem beginFrame_claim (p : Port) : (s.beginFrame p).claim = s.claim := rfl
@[simp] theorem beginFrame_report (p : Port) : (s.beginFrame p).report = s.report := rfl
@[simp] theorem beginFrame_ports (p : Port) :
    (s.beginFrame p).ports =
      s.ports.modify p fun q => { q with frame := some { latch := none, stream := none }, status := s.statusByte p, reply := [] } := rfl
@[simp] theorem beginFrame_pending (p : Port) : (s.beginFrame p).pending = s.pending := rfl

/-! ### withStream -/

@[simp] theorem withStream_pins (p : Port) (t : Stream) : (s.withStream p t).pins = s.pins := rfl
@[simp] theorem withStream_run (p : Port) (t : Stream) : (s.withStream p t).run = s.run := rfl
@[simp] theorem withStream_seconds (p : Port) (t : Stream) : (s.withStream p t).seconds = s.seconds := rfl
@[simp] theorem withStream_nextDue (p : Port) (t : Stream) : (s.withStream p t).nextDue = s.nextDue := rfl
@[simp] theorem withStream_late (p : Port) (t : Stream) : (s.withStream p t).late = s.late := rfl
@[simp] theorem withStream_sweep (p : Port) (t : Stream) : (s.withStream p t).sweep = s.sweep := rfl
@[simp] theorem withStream_link (p : Port) (t : Stream) : (s.withStream p t).link = s.link := rfl
@[simp] theorem withStream_modules (p : Port) (t : Stream) : (s.withStream p t).modules = s.modules := rfl
@[simp] theorem withStream_outlets (p : Port) (t : Stream) : (s.withStream p t).outlets = s.outlets := rfl
@[simp] theorem withStream_committed (p : Port) (t : Stream) : (s.withStream p t).committed = s.committed := rfl
@[simp] theorem withStream_attribution (p : Port) (t : Stream) : (s.withStream p t).attribution = s.attribution := rfl
@[simp] theorem withStream_live (p : Port) (t : Stream) : (s.withStream p t).live = s.live := rfl
@[simp] theorem withStream_accruals (p : Port) (t : Stream) : (s.withStream p t).accruals = s.accruals := rfl
@[simp] theorem withStream_house (p : Port) (t : Stream) : (s.withStream p t).house = s.house := rfl
@[simp] theorem withStream_queue (p : Port) (t : Stream) : (s.withStream p t).queue = s.queue := rfl
@[simp] theorem withStream_closer (p : Port) (t : Stream) : (s.withStream p t).closer = s.closer := rfl
@[simp] theorem withStream_ring (p : Port) (t : Stream) : (s.withStream p t).ring = s.ring := rfl
@[simp] theorem withStream_claim (p : Port) (t : Stream) : (s.withStream p t).claim = s.claim := rfl
@[simp] theorem withStream_report (p : Port) (t : Stream) : (s.withStream p t).report = s.report := rfl
@[simp] theorem withStream_ports (p : Port) (t : Stream) :
    (s.withStream p t).ports =
      s.ports.modify p fun q => { q with frame := q.frame.map fun f => { f with stream := some t } } := rfl
@[simp] theorem withStream_pending (p : Port) (t : Stream) : (s.withStream p t).pending = s.pending := rfl

/-! ### removeEntries -/

@[simp] theorem removeEntries_pins (g : Entry → Bool) : (s.removeEntries g).pins = s.pins := rfl
@[simp] theorem removeEntries_run (g : Entry → Bool) : (s.removeEntries g).run = s.run := rfl
@[simp] theorem removeEntries_seconds (g : Entry → Bool) : (s.removeEntries g).seconds = s.seconds := rfl
@[simp] theorem removeEntries_nextDue (g : Entry → Bool) : (s.removeEntries g).nextDue = s.nextDue := rfl
@[simp] theorem removeEntries_late (g : Entry → Bool) : (s.removeEntries g).late = s.late := rfl
@[simp] theorem removeEntries_sweep (g : Entry → Bool) : (s.removeEntries g).sweep = s.sweep := rfl
@[simp] theorem removeEntries_modules (g : Entry → Bool) : (s.removeEntries g).modules = s.modules := rfl
@[simp] theorem removeEntries_outlets (g : Entry → Bool) : (s.removeEntries g).outlets = s.outlets := rfl
@[simp] theorem removeEntries_committed (g : Entry → Bool) : (s.removeEntries g).committed = s.committed := rfl
@[simp] theorem removeEntries_attribution (g : Entry → Bool) : (s.removeEntries g).attribution = s.attribution := rfl
@[simp] theorem removeEntries_live (g : Entry → Bool) :
    (s.removeEntries g).live =
      s.live.imap fun i l => if s.queue.any fun e => g e && e.ofTenant i then { l with inFlight := none } else l := rfl
@[simp] theorem removeEntries_accruals (g : Entry → Bool) : (s.removeEntries g).accruals = s.accruals := rfl
@[simp] theorem removeEntries_house (g : Entry → Bool) : (s.removeEntries g).house = s.house := rfl
@[simp] theorem removeEntries_queue (g : Entry → Bool) :
    (s.removeEntries g).queue = s.queue.filter fun e => !g e := rfl
@[simp] theorem removeEntries_closer (g : Entry → Bool) : (s.removeEntries g).closer = s.closer := rfl
@[simp] theorem removeEntries_ring (g : Entry → Bool) : (s.removeEntries g).ring = s.ring := rfl
@[simp] theorem removeEntries_claim (g : Entry → Bool) : (s.removeEntries g).claim = s.claim := rfl
@[simp] theorem removeEntries_report (g : Entry → Bool) : (s.removeEntries g).report = s.report := rfl
@[simp] theorem removeEntries_ports (g : Entry → Bool) : (s.removeEntries g).ports = s.ports := rfl
@[simp] theorem removeEntries_pending (g : Entry → Bool) : (s.removeEntries g).pending = s.pending := rfl

/-! ### removeEntry -/

@[simp] theorem removeEntry_pins (o : OutletId) : (s.removeEntry o).pins = s.pins := rfl
@[simp] theorem removeEntry_run (o : OutletId) : (s.removeEntry o).run = s.run := rfl
@[simp] theorem removeEntry_seconds (o : OutletId) : (s.removeEntry o).seconds = s.seconds := rfl
@[simp] theorem removeEntry_nextDue (o : OutletId) : (s.removeEntry o).nextDue = s.nextDue := rfl
@[simp] theorem removeEntry_late (o : OutletId) : (s.removeEntry o).late = s.late := rfl
@[simp] theorem removeEntry_sweep (o : OutletId) : (s.removeEntry o).sweep = s.sweep := rfl
@[simp] theorem removeEntry_modules (o : OutletId) : (s.removeEntry o).modules = s.modules := rfl
@[simp] theorem removeEntry_outlets (o : OutletId) : (s.removeEntry o).outlets = s.outlets := rfl
@[simp] theorem removeEntry_committed (o : OutletId) : (s.removeEntry o).committed = s.committed := rfl
@[simp] theorem removeEntry_attribution (o : OutletId) : (s.removeEntry o).attribution = s.attribution := rfl
@[simp] theorem removeEntry_accruals (o : OutletId) : (s.removeEntry o).accruals = s.accruals := rfl
@[simp] theorem removeEntry_house (o : OutletId) : (s.removeEntry o).house = s.house := rfl
@[simp] theorem removeEntry_queue (o : OutletId) :
    (s.removeEntry o).queue = s.queue.filter fun e => !(e.outlet == o) := rfl
@[simp] theorem removeEntry_closer (o : OutletId) : (s.removeEntry o).closer = s.closer := rfl
@[simp] theorem removeEntry_ring (o : OutletId) : (s.removeEntry o).ring = s.ring := rfl
@[simp] theorem removeEntry_claim (o : OutletId) : (s.removeEntry o).claim = s.claim := rfl
@[simp] theorem removeEntry_report (o : OutletId) : (s.removeEntry o).report = s.report := rfl
@[simp] theorem removeEntry_ports (o : OutletId) : (s.removeEntry o).ports = s.ports := rfl
@[simp] theorem removeEntry_pending (o : OutletId) : (s.removeEntry o).pending = s.pending := rfl

/-! ### takeSnapshot -/

@[simp] theorem takeSnapshot_pins (p : Port) (k : Byte) (a : List Byte) (g : State → Result × List Byte) :
    (s.takeSnapshot p k a g).pins = s.pins := rfl
@[simp] theorem takeSnapshot_run (p : Port) (k : Byte) (a : List Byte) (g : State → Result × List Byte) :
    (s.takeSnapshot p k a g).run = s.run := rfl
@[simp] theorem takeSnapshot_seconds (p : Port) (k : Byte) (a : List Byte) (g : State → Result × List Byte) :
    (s.takeSnapshot p k a g).seconds = s.seconds := rfl
@[simp] theorem takeSnapshot_nextDue (p : Port) (k : Byte) (a : List Byte) (g : State → Result × List Byte) :
    (s.takeSnapshot p k a g).nextDue = s.nextDue := rfl
@[simp] theorem takeSnapshot_late (p : Port) (k : Byte) (a : List Byte) (g : State → Result × List Byte) :
    (s.takeSnapshot p k a g).late = s.late := rfl
@[simp] theorem takeSnapshot_sweep (p : Port) (k : Byte) (a : List Byte) (g : State → Result × List Byte) :
    (s.takeSnapshot p k a g).sweep = s.sweep := rfl
@[simp] theorem takeSnapshot_link (p : Port) (k : Byte) (a : List Byte) (g : State → Result × List Byte) :
    (s.takeSnapshot p k a g).link = s.link := rfl
@[simp] theorem takeSnapshot_modules (p : Port) (k : Byte) (a : List Byte) (g : State → Result × List Byte) :
    (s.takeSnapshot p k a g).modules = s.modules := rfl
@[simp] theorem takeSnapshot_outlets (p : Port) (k : Byte) (a : List Byte) (g : State → Result × List Byte) :
    (s.takeSnapshot p k a g).outlets = s.outlets := rfl
@[simp] theorem takeSnapshot_committed (p : Port) (k : Byte) (a : List Byte) (g : State → Result × List Byte) :
    (s.takeSnapshot p k a g).committed = s.committed := rfl
@[simp] theorem takeSnapshot_attribution (p : Port) (k : Byte) (a : List Byte) (g : State → Result × List Byte) :
    (s.takeSnapshot p k a g).attribution = s.attribution := rfl
@[simp] theorem takeSnapshot_live (p : Port) (k : Byte) (a : List Byte) (g : State → Result × List Byte) :
    (s.takeSnapshot p k a g).live = s.live := rfl
@[simp] theorem takeSnapshot_accruals (p : Port) (k : Byte) (a : List Byte) (g : State → Result × List Byte) :
    (s.takeSnapshot p k a g).accruals = s.accruals := rfl
@[simp] theorem takeSnapshot_house (p : Port) (k : Byte) (a : List Byte) (g : State → Result × List Byte) :
    (s.takeSnapshot p k a g).house = s.house := rfl
@[simp] theorem takeSnapshot_queue (p : Port) (k : Byte) (a : List Byte) (g : State → Result × List Byte) :
    (s.takeSnapshot p k a g).queue = s.queue := rfl
@[simp] theorem takeSnapshot_closer (p : Port) (k : Byte) (a : List Byte) (g : State → Result × List Byte) :
    (s.takeSnapshot p k a g).closer = s.closer := rfl
@[simp] theorem takeSnapshot_ring (p : Port) (k : Byte) (a : List Byte) (g : State → Result × List Byte) :
    (s.takeSnapshot p k a g).ring = s.ring := rfl
@[simp] theorem takeSnapshot_claim (p : Port) (k : Byte) (a : List Byte) (g : State → Result × List Byte) :
    (s.takeSnapshot p k a g).claim = s.claim := rfl
@[simp] theorem takeSnapshot_report (p : Port) (k : Byte) (a : List Byte) (g : State → Result × List Byte) :
    (s.takeSnapshot p k a g).report = s.report := rfl
@[simp] theorem takeSnapshot_pending (p : Port) (k : Byte) (a : List Byte) (g : State → Result × List Byte) :
    (s.takeSnapshot p k a g).pending = s.pending := rfl

/-! ### endFrame -/

@[simp] theorem endFrame_pins (p : Port) (r : Result) : (s.endFrame p r).pins = s.pins := rfl
@[simp] theorem endFrame_run (p : Port) (r : Result) : (s.endFrame p r).run = s.run := rfl
@[simp] theorem endFrame_seconds (p : Port) (r : Result) : (s.endFrame p r).seconds = s.seconds := rfl
@[simp] theorem endFrame_nextDue (p : Port) (r : Result) : (s.endFrame p r).nextDue = s.nextDue := rfl
@[simp] theorem endFrame_late (p : Port) (r : Result) : (s.endFrame p r).late = s.late := rfl
@[simp] theorem endFrame_sweep (p : Port) (r : Result) : (s.endFrame p r).sweep = s.sweep := rfl
@[simp] theorem endFrame_link (p : Port) (r : Result) : (s.endFrame p r).link = s.link := rfl
@[simp] theorem endFrame_modules (p : Port) (r : Result) : (s.endFrame p r).modules = s.modules := rfl
@[simp] theorem endFrame_outlets (p : Port) (r : Result) : (s.endFrame p r).outlets = s.outlets := rfl
@[simp] theorem endFrame_committed (p : Port) (r : Result) : (s.endFrame p r).committed = s.committed := rfl
@[simp] theorem endFrame_attribution (p : Port) (r : Result) : (s.endFrame p r).attribution = s.attribution := rfl
@[simp] theorem endFrame_live (p : Port) (r : Result) : (s.endFrame p r).live = s.live := rfl
@[simp] theorem endFrame_accruals (p : Port) (r : Result) : (s.endFrame p r).accruals = s.accruals := rfl
@[simp] theorem endFrame_house (p : Port) (r : Result) : (s.endFrame p r).house = s.house := rfl
@[simp] theorem endFrame_queue (p : Port) (r : Result) : (s.endFrame p r).queue = s.queue := rfl
@[simp] theorem endFrame_closer (p : Port) (r : Result) : (s.endFrame p r).closer = s.closer := rfl
@[simp] theorem endFrame_ring (p : Port) (r : Result) : (s.endFrame p r).ring = s.ring := rfl
@[simp] theorem endFrame_claim (p : Port) (r : Result) :
    (s.endFrame p r).claim = if r = .ok then s.claim.restart p else s.claim := rfl
@[simp] theorem endFrame_report (p : Port) (r : Result) : (s.endFrame p r).report = s.report := rfl
@[simp] theorem endFrame_ports (p : Port) (r : Result) :
    (s.endFrame p r).ports = s.ports.modify p fun q => { q with result := r, frame := none } := rfl
@[simp] theorem endFrame_pending (p : Port) (r : Result) : (s.endFrame p r).pending = s.pending := rfl

/-! ### ensureFrame -/

@[simp] theorem ensureFrame_pins (p : Port) : (s.ensureFrame p).pins = s.pins := by
  unfold ensureFrame; split <;> rfl
@[simp] theorem ensureFrame_run (p : Port) : (s.ensureFrame p).run = s.run := by
  unfold ensureFrame; split <;> rfl
@[simp] theorem ensureFrame_seconds (p : Port) : (s.ensureFrame p).seconds = s.seconds := by
  unfold ensureFrame; split <;> rfl
@[simp] theorem ensureFrame_nextDue (p : Port) : (s.ensureFrame p).nextDue = s.nextDue := by
  unfold ensureFrame; split <;> rfl
@[simp] theorem ensureFrame_late (p : Port) : (s.ensureFrame p).late = s.late := by
  unfold ensureFrame; split <;> rfl
@[simp] theorem ensureFrame_sweep (p : Port) : (s.ensureFrame p).sweep = s.sweep := by
  unfold ensureFrame; split <;> rfl
@[simp] theorem ensureFrame_link (p : Port) : (s.ensureFrame p).link = s.link := by
  unfold ensureFrame; split <;> rfl
@[simp] theorem ensureFrame_modules (p : Port) : (s.ensureFrame p).modules = s.modules := by
  unfold ensureFrame; split <;> rfl
@[simp] theorem ensureFrame_outlets (p : Port) : (s.ensureFrame p).outlets = s.outlets := by
  unfold ensureFrame; split <;> rfl
@[simp] theorem ensureFrame_committed (p : Port) : (s.ensureFrame p).committed = s.committed := by
  unfold ensureFrame; split <;> rfl
@[simp] theorem ensureFrame_attribution (p : Port) : (s.ensureFrame p).attribution = s.attribution := by
  unfold ensureFrame; split <;> rfl
@[simp] theorem ensureFrame_live (p : Port) : (s.ensureFrame p).live = s.live := by
  unfold ensureFrame; split <;> rfl
@[simp] theorem ensureFrame_accruals (p : Port) : (s.ensureFrame p).accruals = s.accruals := by
  unfold ensureFrame; split <;> rfl
@[simp] theorem ensureFrame_house (p : Port) : (s.ensureFrame p).house = s.house := by
  unfold ensureFrame; split <;> rfl
@[simp] theorem ensureFrame_queue (p : Port) : (s.ensureFrame p).queue = s.queue := by
  unfold ensureFrame; split <;> rfl
@[simp] theorem ensureFrame_closer (p : Port) : (s.ensureFrame p).closer = s.closer := by
  unfold ensureFrame; split <;> rfl
@[simp] theorem ensureFrame_ring (p : Port) : (s.ensureFrame p).ring = s.ring := by
  unfold ensureFrame; split <;> rfl
@[simp] theorem ensureFrame_claim (p : Port) : (s.ensureFrame p).claim = s.claim := by
  unfold ensureFrame; split <;> rfl
@[simp] theorem ensureFrame_report (p : Port) : (s.ensureFrame p).report = s.report := by
  unfold ensureFrame; split <;> rfl
@[simp] theorem ensureFrame_pending (p : Port) : (s.ensureFrame p).pending = s.pending := by
  unfold ensureFrame; split <;> rfl

/-! ### placeEntry -/

@[simp] theorem placeEntry_pins (o : OutletId) (a : Action) (r : Origin) : (s.placeEntry o a r).pins = s.pins := by
  unfold placeEntry; split <;> [(cases r <;> rfl); rfl]
@[simp] theorem placeEntry_run (o : OutletId) (a : Action) (r : Origin) : (s.placeEntry o a r).run = s.run := by
  unfold placeEntry; split <;> [(cases r <;> rfl); rfl]
@[simp] theorem placeEntry_seconds (o : OutletId) (a : Action) (r : Origin) : (s.placeEntry o a r).seconds = s.seconds := by
  unfold placeEntry; split <;> [(cases r <;> rfl); rfl]
@[simp] theorem placeEntry_nextDue (o : OutletId) (a : Action) (r : Origin) : (s.placeEntry o a r).nextDue = s.nextDue := by
  unfold placeEntry; split <;> [(cases r <;> rfl); rfl]
@[simp] theorem placeEntry_late (o : OutletId) (a : Action) (r : Origin) : (s.placeEntry o a r).late = s.late := by
  unfold placeEntry; split <;> [(cases r <;> rfl); rfl]
@[simp] theorem placeEntry_sweep (o : OutletId) (a : Action) (r : Origin) : (s.placeEntry o a r).sweep = s.sweep := by
  unfold placeEntry; split <;> [(cases r <;> rfl); rfl]
@[simp] theorem placeEntry_link (o : OutletId) (a : Action) (r : Origin) : (s.placeEntry o a r).link = s.link := by
  unfold placeEntry; split <;> [(cases r <;> rfl); rfl]
@[simp] theorem placeEntry_modules (o : OutletId) (a : Action) (r : Origin) : (s.placeEntry o a r).modules = s.modules := by
  unfold placeEntry; split <;> [(cases r <;> rfl); rfl]
@[simp] theorem placeEntry_outlets (o : OutletId) (a : Action) (r : Origin) : (s.placeEntry o a r).outlets = s.outlets := by
  unfold placeEntry; split <;> [(cases r <;> rfl); rfl]
@[simp] theorem placeEntry_committed (o : OutletId) (a : Action) (r : Origin) : (s.placeEntry o a r).committed = s.committed := by
  unfold placeEntry; split <;> [(cases r <;> rfl); rfl]
@[simp] theorem placeEntry_attribution (o : OutletId) (a : Action) (r : Origin) : (s.placeEntry o a r).attribution = s.attribution := by
  unfold placeEntry; split <;> [(cases r <;> rfl); rfl]
@[simp] theorem placeEntry_accruals (o : OutletId) (a : Action) (r : Origin) : (s.placeEntry o a r).accruals = s.accruals := by
  unfold placeEntry; split <;> [(cases r <;> rfl); rfl]
@[simp] theorem placeEntry_house (o : OutletId) (a : Action) (r : Origin) : (s.placeEntry o a r).house = s.house := by
  unfold placeEntry; split <;> [(cases r <;> rfl); rfl]
@[simp] theorem placeEntry_closer (o : OutletId) (a : Action) (r : Origin) : (s.placeEntry o a r).closer = s.closer := by
  unfold placeEntry; split <;> [(cases r <;> rfl); rfl]
@[simp] theorem placeEntry_ring (o : OutletId) (a : Action) (r : Origin) : (s.placeEntry o a r).ring = s.ring := by
  unfold placeEntry; split <;> [(cases r <;> rfl); rfl]
@[simp] theorem placeEntry_claim (o : OutletId) (a : Action) (r : Origin) : (s.placeEntry o a r).claim = s.claim := by
  unfold placeEntry; split <;> [(cases r <;> rfl); rfl]
@[simp] theorem placeEntry_report (o : OutletId) (a : Action) (r : Origin) : (s.placeEntry o a r).report = s.report := by
  unfold placeEntry; split <;> [(cases r <;> rfl); rfl]
@[simp] theorem placeEntry_ports (o : OutletId) (a : Action) (r : Origin) : (s.placeEntry o a r).ports = s.ports := by
  unfold placeEntry; split <;> [(cases r <;> rfl); rfl]
@[simp] theorem placeEntry_pending (o : OutletId) (a : Action) (r : Origin) : (s.placeEntry o a r).pending = s.pending := by
  unfold placeEntry; split <;> [(cases r <;> rfl); rfl]

/-! ### updEnergy -/

@[simp] theorem updEnergy_pins (w : Option TenantId) (f : EnergyAcc → EnergyAcc) : (s.updEnergy w f).pins = s.pins := by
  cases w <;> rfl
@[simp] theorem updEnergy_run (w : Option TenantId) (f : EnergyAcc → EnergyAcc) : (s.updEnergy w f).run = s.run := by
  cases w <;> rfl
@[simp] theorem updEnergy_seconds (w : Option TenantId) (f : EnergyAcc → EnergyAcc) : (s.updEnergy w f).seconds = s.seconds := by
  cases w <;> rfl
@[simp] theorem updEnergy_nextDue (w : Option TenantId) (f : EnergyAcc → EnergyAcc) : (s.updEnergy w f).nextDue = s.nextDue := by
  cases w <;> rfl
@[simp] theorem updEnergy_late (w : Option TenantId) (f : EnergyAcc → EnergyAcc) : (s.updEnergy w f).late = s.late := by
  cases w <;> rfl
@[simp] theorem updEnergy_sweep (w : Option TenantId) (f : EnergyAcc → EnergyAcc) : (s.updEnergy w f).sweep = s.sweep := by
  cases w <;> rfl
@[simp] theorem updEnergy_link (w : Option TenantId) (f : EnergyAcc → EnergyAcc) : (s.updEnergy w f).link = s.link := by
  cases w <;> rfl
@[simp] theorem updEnergy_modules (w : Option TenantId) (f : EnergyAcc → EnergyAcc) : (s.updEnergy w f).modules = s.modules := by
  cases w <;> rfl
@[simp] theorem updEnergy_outlets (w : Option TenantId) (f : EnergyAcc → EnergyAcc) : (s.updEnergy w f).outlets = s.outlets := by
  cases w <;> rfl
@[simp] theorem updEnergy_committed (w : Option TenantId) (f : EnergyAcc → EnergyAcc) : (s.updEnergy w f).committed = s.committed := by
  cases w <;> rfl
@[simp] theorem updEnergy_attribution (w : Option TenantId) (f : EnergyAcc → EnergyAcc) : (s.updEnergy w f).attribution = s.attribution := by
  cases w <;> rfl
@[simp] theorem updEnergy_live (w : Option TenantId) (f : EnergyAcc → EnergyAcc) : (s.updEnergy w f).live = s.live := by
  cases w <;> rfl
@[simp] theorem updEnergy_queue (w : Option TenantId) (f : EnergyAcc → EnergyAcc) : (s.updEnergy w f).queue = s.queue := by
  cases w <;> rfl
@[simp] theorem updEnergy_closer (w : Option TenantId) (f : EnergyAcc → EnergyAcc) : (s.updEnergy w f).closer = s.closer := by
  cases w <;> rfl
@[simp] theorem updEnergy_ring (w : Option TenantId) (f : EnergyAcc → EnergyAcc) : (s.updEnergy w f).ring = s.ring := by
  cases w <;> rfl
@[simp] theorem updEnergy_claim (w : Option TenantId) (f : EnergyAcc → EnergyAcc) : (s.updEnergy w f).claim = s.claim := by
  cases w <;> rfl
@[simp] theorem updEnergy_report (w : Option TenantId) (f : EnergyAcc → EnergyAcc) : (s.updEnergy w f).report = s.report := by
  cases w <;> rfl
@[simp] theorem updEnergy_ports (w : Option TenantId) (f : EnergyAcc → EnergyAcc) : (s.updEnergy w f).ports = s.ports := by
  cases w <;> rfl
@[simp] theorem updEnergy_pending (w : Option TenantId) (f : EnergyAcc → EnergyAcc) : (s.updEnergy w f).pending = s.pending := by
  cases w <;> rfl

/-! ### sampleLock -/

@[simp] theorem sampleLock_run (p : Port) (b : Bool) : (s.sampleLock p b).run = s.run := by
  unfold sampleLock; split <;> rfl
@[simp] theorem sampleLock_seconds (p : Port) (b : Bool) : (s.sampleLock p b).seconds = s.seconds := by
  unfold sampleLock; split <;> rfl
@[simp] theorem sampleLock_nextDue (p : Port) (b : Bool) : (s.sampleLock p b).nextDue = s.nextDue := by
  unfold sampleLock; split <;> rfl
@[simp] theorem sampleLock_late (p : Port) (b : Bool) : (s.sampleLock p b).late = s.late := by
  unfold sampleLock; split <;> rfl
@[simp] theorem sampleLock_sweep (p : Port) (b : Bool) : (s.sampleLock p b).sweep = s.sweep := by
  unfold sampleLock; split <;> rfl
@[simp] theorem sampleLock_link (p : Port) (b : Bool) : (s.sampleLock p b).link = s.link := by
  unfold sampleLock; split <;> rfl
@[simp] theorem sampleLock_modules (p : Port) (b : Bool) : (s.sampleLock p b).modules = s.modules := by
  unfold sampleLock; split <;> rfl
@[simp] theorem sampleLock_outlets (p : Port) (b : Bool) : (s.sampleLock p b).outlets = s.outlets := by
  unfold sampleLock; split <;> rfl
@[simp] theorem sampleLock_committed (p : Port) (b : Bool) : (s.sampleLock p b).committed = s.committed := by
  unfold sampleLock; split <;> rfl
@[simp] theorem sampleLock_attribution (p : Port) (b : Bool) : (s.sampleLock p b).attribution = s.attribution := by
  unfold sampleLock; split <;> rfl
@[simp] theorem sampleLock_live (p : Port) (b : Bool) : (s.sampleLock p b).live = s.live := by
  unfold sampleLock; split <;> rfl
@[simp] theorem sampleLock_accruals (p : Port) (b : Bool) : (s.sampleLock p b).accruals = s.accruals := by
  unfold sampleLock; split <;> rfl
@[simp] theorem sampleLock_house (p : Port) (b : Bool) : (s.sampleLock p b).house = s.house := by
  unfold sampleLock; split <;> rfl
@[simp] theorem sampleLock_queue (p : Port) (b : Bool) : (s.sampleLock p b).queue = s.queue := by
  unfold sampleLock; split <;> rfl
@[simp] theorem sampleLock_closer (p : Port) (b : Bool) : (s.sampleLock p b).closer = s.closer := by
  unfold sampleLock; split <;> rfl
@[simp] theorem sampleLock_ring (p : Port) (b : Bool) : (s.sampleLock p b).ring = s.ring := by
  unfold sampleLock; split <;> rfl
@[simp] theorem sampleLock_claim (p : Port) (b : Bool) : (s.sampleLock p b).claim = s.claim := by
  unfold sampleLock; split <;> rfl
@[simp] theorem sampleLock_report (p : Port) (b : Bool) : (s.sampleLock p b).report = s.report := by
  unfold sampleLock; split <;> rfl
@[simp] theorem sampleLock_ports (p : Port) (b : Bool) : (s.sampleLock p b).ports = s.ports := by
  unfold sampleLock; split <;> rfl
@[simp] theorem sampleLock_pending (p : Port) (b : Bool) : (s.sampleLock p b).pending = s.pending := by
  unfold sampleLock; split <;> rfl

end Sys2Proof.Machine.State
end

