-- ==== Sys2Proof/Laws/Table.lean ====
section
/-!
SUPPORT. The small lemmas of `Table`: reading after a write, after a map and from a fill, and extensionality.
-/

namespace Sys2Proof.Table

variable {α β : Type} {n : Nat}

@[simp] theorem get_set_same (t : Table α n) (i : Fin n) (x : α) : (t.set i x).get i = x := by
  simp [get, set]

theorem get_set (t : Table α n) (i j : Fin n) (x : α) :
    (t.set i x).get j = if i = j then x else t.get j := by
  by_cases h : i = j
  · subst h; simp
  · have hv : i.val ≠ j.val := fun e => h (Fin.ext e)
    simp [get, set, h, hv]

@[simp] theorem get_set_ne (t : Table α n) {i j : Fin n} (x : α) (h : i ≠ j) : (t.set i x).get j = t.get j := by
  rw [get_set]; simp [h]

@[simp] theorem get_modify_same (t : Table α n) (i : Fin n) (f : α → α) : (t.modify i f).get i = f (t.get i) := by
  simp [modify]

@[simp] theorem get_modify_ne (t : Table α n) {i j : Fin n} (f : α → α) (h : i ≠ j) :
    (t.modify i f).get j = t.get j := by
  simp [modify, h]

theorem get_modify (t : Table α n) (i j : Fin n) (f : α → α) :
    (t.modify i f).get j = if i = j then f (t.get j) else t.get j := by
  by_cases h : i = j
  · subst h; simp
  · simp [h]

@[simp] theorem get_imap (t : Table α n) (f : Fin n → α → β) (i : Fin n) : (t.imap f).get i = f i (t.get i) := by
  simp [get, imap]

@[simp] theorem get_tabulate (f : Fin n → α) (i : Fin n) : (tabulate n f).get i = f i := by
  simp [get, tabulate]

@[simp] theorem get_fill (x : α) (i : Fin n) : (fill n x).get i = x := by
  simp [get, fill]

theorem ext_get {t u : Table α n} (h : ∀ i, t.get i = u.get i) : t = u := by
  obtain ⟨l, hl⟩ := t
  obtain ⟨m, hm⟩ := u
  congr 1
  apply List.ext_getElem (by rw [hl, hm])
  intro k hk _
  exact h ⟨k, hl ▸ hk⟩

@[simp] theorem set_get_self (t : Table α n) (i : Fin n) : t.set i (t.get i) = t :=
  ext_get fun j => by rw [get_set]; split <;> simp_all

end Sys2Proof.Table
end

