-- ==== Sys2Proof/Laws/Apply.lean ====
section
/-!
SUPPORT. What the application of a set does to the queue and to the outlet records, each said once (R15, R37, R94, R107).
-/

namespace Sys2Proof.Machine.State

variable (s : State) (c : Configuration)

@[simp] theorem applyModules_committed : (s.applyModules c).committed = s.committed := rfl

@[simp] theorem applyQueue_outlets : (s.applyQueue c).outlets = s.outlets := rfl

@[simp] theorem applyQueue_contract (i : TenantId) : (s.applyQueue c).contract i = s.contract i := rfl

/-- Staleness under a set depends on the committed configuration alone. -/
theorem markStale_applyModules : (s.applyModules c).markStale c = s.markStale c := rfl

theorem madeStale_applyModules : (s.applyModules c).madeStale c = s.madeStale c := rfl

/-- The queue after an application (R106, R107): without the entries of removed modules and the PENDING ones made stale,
the rest in order, marked. -/
theorem applySet_queue :
    (s.applySet c).queue =
      ((s.queue.filter fun e => !s.removes c (moduleOfOutlet e.outlet)).filter
        fun e => !(s.madeStale c e && e.isPending)).map (s.markStale c) := rfl

/-- The outlet records after an application: initial where the module is removed, else the record with cause ADMIN where
the outlet leaves a stack by R15 or R94. -/
theorem applySet_outlets_get (o : OutletId) :
    (s.applySet c).outlets.get o =
      let x := if s.removes c (moduleOfOutlet o) then Outlet.initial else s.outlets.get o
      if ((s.applyModules c).applyQueue c).madeAdmin c o then { x with cause := .admin } else x := by
  show (((s.applyModules c).outlets.imap _).get o) = _
  rw [Table.get_imap]
  show (if _ then { ((s.outlets.imap _).get o : Outlet) with cause := _ } else (s.outlets.imap _).get o) = _
  rw [Table.get_imap]

end Sys2Proof.Machine.State
end

