-- ==== Sys2Proof/Laws/Arithmetic.lean ====
section
/-!
SUPPORT. Bounds of the arithmetic that saturates (R54, R64, section 5.1 of the introduction).
-/

namespace Sys2Proof.Machine

/-- A saturating rise stays at or below its limit. -/
theorem satRise_le (top k n : Nat) : satRise top k n ≤ top := min_le_left _ _

/-- A saturating rise from within the limit never falls. -/
theorem le_satRise (top k n : Nat) (h : k ≤ top) : k ≤ satRise top k n := le_min h (Nat.le_add_right _ _)

/-- An accumulator that takes an amount stays within its limits (R54). -/
theorem satAdd_range (lo hi acc e : Int) (h : lo ≤ hi) : lo ≤ (satAdd lo hi acc e).1 ∧ (satAdd lo hi acc e).1 ≤ hi := by
  unfold satAdd
  split <;> [skip; split] <;> constructor <;> simp only <;> omega

/-- An accumulator reports saturation exactly where the exact sum lies outside its limits (R54). -/
theorem satAdd_saturates (lo hi acc e : Int) :
    (satAdd lo hi acc e).2 = true ↔ acc + e < lo ∨ hi < acc + e := by
  unfold satAdd
  split <;> [skip; split] <;> simp <;> omega

/-- A credit within its capacity stays there through a sweep (R64). -/
theorem newCredit_le (c : Contract) (t credit demand : Nat) (h : credit ≤ c.qmax) :
    newCredit c t credit demand ≤ c.qmax := by
  unfold newCredit
  split
  · exact min_le_left _ _
  · omega

/-- An owner's energy update touches neither the outlets nor the queue, whoever the owner is. -/
theorem updEnergy_frame (s : State) (owner : Option TenantId) (f : EnergyAcc → EnergyAcc) :
    s.updEnergy owner f =
      { s with accruals := (s.updEnergy owner f).accruals, house := (s.updEnergy owner f).house } := by
  cases owner <;> rfl

end Sys2Proof.Machine
end

