-- ==== Sys2Proof/Laws/Frames.lean ====
section
/-!
SUPPORT. What the frame of a request can do, said once: its beginning, its end as `State.answer`, and the two shapes of
request.
-/

namespace Sys2Proof.Machine.State

variable (s : State) (p : Port)

/-- A port's record after a run of changes to it is its image under their composition. -/
theorem modify_modify {α : Type} {n : Nat} (t : Table α n) (i : Fin n) (f g : α → α) :
    (t.modify i f).modify i g = t.modify i fun x => g (f x) :=
  Table.ext_get fun j => by simp only [Table.get_modify]; split <;> rfl

theorem modify_congr {α : Type} {n : Nat} (t : Table α n) (i : Fin n) {f g : α → α} (h : f (t.get i) = g (t.get i)) :
    t.modify i f = t.modify i g := by
  simp only [Table.modify, h]

@[simp] theorem modify_id {α : Type} {n : Nat} (t : Table α n) (i : Fin n) : (t.modify i fun x => x) = t :=
  Table.ext_get fun j => by simp only [Table.get_modify]; split <;> rfl

/-- The frame in progress after `ensureFrame`: the one there was, or a fresh one with the status sampled. -/
theorem ensureFrame_ports :
    (s.ensureFrame p).ports = s.ports.modify p fun q =>
      { q with
        frame := some (q.frame.getD { latch := none, stream := none }), status := s.shownStatus p
        reply := s.shownReply p } := by
  unfold ensureFrame shownStatus shownReply
  cases h : (s.ports.get p).frame with
  | none => simp only [beginFrame_ports]; exact modify_congr _ _ (by simp [h])
  | some f =>
    simp only
    conv_lhs => rw [← modify_id s.ports p]
    exact modify_congr _ _ (by cases hq : s.ports.get p; simp_all)

theorem ensureFrame_eq : s.ensureFrame p = { s with ports := (s.ensureFrame p).ports } := by
  unfold ensureFrame; split <;> rfl

@[simp] theorem ensureFrame_role (q : Port) : (s.ensureFrame p).role q = s.role q := by
  have hr : ((s.ensureFrame p).ports.get q).role = (s.ports.get q).role := by
    simp only [ensureFrame_ports, Table.get_modify]; split <;> rfl
  have hp : (s.ensureFrame p).pins = s.pins := by rw [ensureFrame_eq]
  simp only [role, hr, hp]

/-- A port's own record after `ensureFrame`, but for its frame, status and reply. -/
theorem ensureFrame_get :
    (s.ensureFrame p).ports.get p =
      { s.ports.get p with
        frame := some ((s.ports.get p).frame.getD { latch := none, stream := none }), status := s.shownStatus p
        reply := s.shownReply p } := by
  simp [ensureFrame_ports]

/-- Two answers are the same where they leave the port's own record the same. -/
theorem answer_congr (r : Result) {f g : PortState → PortState}
    (h : ∀ q st rep, { f q with result := r, frame := none, status := st, reply := rep } =
      { g q with result := r, frame := none, status := st, reply := rep }) :
    s.answer p r f = s.answer p r g := by
  have hfg : s.ports.modify p (fun q =>
      { f q with result := r, frame := none, status := s.shownStatus p, reply := s.shownReply p }) =
      s.ports.modify p fun q =>
        { g q with result := r, frame := none, status := s.shownStatus p, reply := s.shownReply p } :=
    modify_congr _ _ (h _ _ _)
  simp only [answer, hfg]

/-- The end of a frame whose request changed its own port's record by `f`, which leaves status and response alone. -/
theorem endFrame_updPort (r : Result) (f : PortState → PortState)
    (hf : ∀ q, (f q).status = q.status ∧ (f q).reply = q.reply) :
    ((s.ensureFrame p).updPort p f).endFrame p r = s.answer p r fun q =>
      f { q with
        frame := some (q.frame.getD { latch := none, stream := none }), status := s.shownStatus p
        reply := s.shownReply p } := by
  have hp : (((s.ensureFrame p).updPort p f).endFrame p r).ports = (s.answer p r fun q =>
      f { q with
        frame := some (q.frame.getD { latch := none, stream := none }), status := s.shownStatus p
        reply := s.shownReply p }).ports := by
    simp only [endFrame_ports, updPort_ports, ensureFrame_ports, modify_modify, answer]
    refine modify_congr _ _ ?_
    have h := hf { s.ports.get p with
        frame := some ((s.ports.get p).frame.getD { latch := none, stream := none }), status := s.shownStatus p
        reply := s.shownReply p }
    generalize f _ = x at h ⊢
    obtain ⟨h1, h2⟩ := h
    simp only at h1 h2
    rw [← h1, ← h2]
  have hc : (((s.ensureFrame p).updPort p f).endFrame p r).claim = (s.answer p r id).claim := by
    simp only [endFrame_claim, updPort_claim, ensureFrame_claim, answer, Claim.restart]
    by_cases hr : r = .ok <;> cases s.claim <;> simp [hr]
  rw [show ((s.ensureFrame p).updPort p f).endFrame p r =
      { s with
        ports := (((s.ensureFrame p).updPort p f).endFrame p r).ports
        claim := (((s.ensureFrame p).updPort p f).endFrame p r).claim } by
    simp only [endFrame, updPort]; rw [ensureFrame_eq], hp, hc]
  rfl

/-- The end of a frame whose request changed nothing before its end. -/
theorem endFrame_ensureFrame (r : Result) : (s.ensureFrame p).endFrame p r = s.answer p r id := by
  have h := endFrame_updPort s p r id fun q => ⟨rfl, rfl⟩
  have hu : (s.ensureFrame p).updPort p id = s.ensureFrame p := by
    unfold updPort; rw [show (s.ensureFrame p).ports.modify p id = (s.ensureFrame p).ports from modify_id _ _]
  rw [hu] at h
  rw [h]
  exact answer_congr s p r fun q st rep => rfl

/-- A request without a response, at the rise of select on a port that is not DISABLED. -/
theorem writeRequest_rises (h : s.role p ≠ .disabled) (take : State → State × Result) :
    s.writeRequest p .selectRises take = (take (s.ensureFrame p)).1.endFrame p (take (s.ensureFrame p)).2 := by
  simp [writeRequest, h]

/-- A request on a DISABLED port does nothing. -/
theorem writeRequest_disabled (e : FrameEdge) (h : s.role p = .disabled) (take : State → State × Result) :
    s.writeRequest p e take = s := by
  simp [writeRequest, h]

/-- A read on a DISABLED port does nothing. -/
theorem readRequest_disabled (m : ReadMoment) (h : s.role p = .disabled) (code : Byte) (args : List Byte)
    (form : State → Result × List Byte) : s.readRequest p m code args form = s := by
  simp [readRequest, h]

/-- The fall of select begins a frame for every request. -/
theorem writeRequest_falls (h : s.role p ≠ .disabled) (take : State → State × Result) :
    s.writeRequest p .selectFalls take = s.ensureFrame p := by
  simp [writeRequest, h]

theorem readRequest_falls (h : s.role p ≠ .disabled) (code : Byte) (args : List Byte)
    (form : State → Result × List Byte) : s.readRequest p .selectFalls code args form = s.ensureFrame p := by
  simp [readRequest, h]

@[simp] theorem ensureFrame_latch? : (s.ensureFrame p).latch? p = s.latch? p := by
  unfold latch?; rw [ensureFrame_get]; cases (s.ports.get p).frame <;> simp

/-- The end of a frame whose snapshot was kept in `l` and clocked out as `rep`. -/
theorem endFrame_snapshot (r : Result) (l : Latch) (rep : List Byte) :
    ((s.ensureFrame p).updPort p fun q =>
        { q with frame := q.frame.map fun f => { f with latch := some l }, reply := rep }).endFrame p r =
      s.answerRead p r rep := by
  have hp : (((s.ensureFrame p).updPort p fun q =>
      { q with frame := q.frame.map fun f => { f with latch := some l }, reply := rep }).endFrame p r).ports =
      (s.answerRead p r rep).ports := by
    simp only [endFrame_ports, updPort_ports, ensureFrame_ports, modify_modify, answerRead, answer]
    rfl
  have hc : (((s.ensureFrame p).updPort p fun q =>
      { q with frame := q.frame.map fun f => { f with latch := some l }, reply := rep }).endFrame p r).claim =
      (s.answerRead p r rep).claim := by
    simp only [endFrame_claim, updPort_claim, ensureFrame_claim, answerRead, answer, Claim.restart]
    by_cases hr : r = .ok <;> cases s.claim <;> simp [hr]
  have he : ∀ t : State, t = { s with ports := t.ports, claim := t.claim } →
      t.ports = (s.answerRead p r rep).ports → t.claim = (s.answerRead p r rep).claim →
      t = s.answerRead p r rep := by
    intro t h1 h2 h3
    rw [h1, h2, h3]
    rfl
  refine he _ ?_ hp hc
  simp only [endFrame, updPort]
  rw [ensureFrame_eq]

/-- A read whose frame holds no snapshot yet, taken at the rise of select as a whole frame. -/
theorem readRequest_rises (h : s.role p ≠ .disabled) (hl : s.latch? p = none) (code : Byte) (args : List Byte)
    (form : State → Result × List Byte) :
    s.readRequest p .selectRises code args form =
      s.answerRead p (form (s.ensureFrame p)).1
        (if (form (s.ensureFrame p)).1 = .ok then (form (s.ensureFrame p)).2 else []) := by
  have hlat : (s.ensureFrame p).latched p code args = none := by simp [latched, hl]
  simp only [readRequest, if_neg h, hlat, takeSnapshot]
  exact endFrame_snapshot s p _ _ _

/-! ### The bytes a port clocks out (R159, R169) -/

@[simp] theorem dataOut_disabled (n k : Nat) (h : s.role p = .disabled) : s.dataOut p n k = none := by
  simp [dataOut, h]

theorem dataOut_of_role (n k : Nat) (h : s.role p ≠ .disabled) :
    s.dataOut p n k = some ((s.ports.get p).outByte n k) := by
  simp [dataOut, h]

@[simp] theorem outByte_status (q : PortState) (n : Nat) : q.outByte n 0 = q.status := rfl

theorem outByte_argument (q : PortState) {n k : Nat} (h : k < n) : q.outByte n (k + 1) = 0xFF := by
  simp [PortState.outByte, h]

theorem outByte_reply (q : PortState) {n k : Nat} (h : n ≤ k) :
    q.outByte n (k + 1) = q.reply.getD (k - n) 0xFF := by
  simp [PortState.outByte, Nat.not_lt.mpr h]

end Sys2Proof.Machine.State
end

