-- ==== Sys2Proof/Laws/Link.lean ====
section
/-!
SUPPORT. Lemmas on bytes and on the frames of the outlet link (R168, R171, R172).
-/

namespace Sys2Proof.Machine

@[simp] theorem beBytes_length (n v : Nat) : (beBytes n v).length = n := by simp [beBytes]

theorem ofBytes_beBytes_two (v : Nat) (h : v < 65536) : ofBytes (beBytes 2 v) = v := by
  simp only [ofBytes, beBytes, List.range, List.range.loop, List.map, List.foldl, BitVec.toNat_ofNat]
  omega

theorem crc16_lt (bs : List Byte) : (crc16 bs).toNat < 65536 := (crc16 bs).isLt

/-- A frame that ends with the CRC of its own body checks (R172). -/
theorem crcChecks_withCrc (body : List Byte) : crcChecks (withCrc body) = true := by
  simp [crcChecks, withCrc, ofBytes_beBytes_two _ (crc16_lt body)]

theorem withCrc_length (body : List Byte) : (withCrc body).length = body.length + 2 := by simp [withCrc]

/-- The bytes ahead of the CRC are the body's. -/
theorem byteAt_withCrc (body : List Byte) (n : Nat) (h : n < body.length) :
    byteAt (withCrc body) n = body.getD n 0 := by
  simp [byteAt, withCrc, List.getElem?_append_left h, h]

/-- An answer of module `m` with its CRC behind it is good (R24, R172). -/
theorem answerGood_withCrc (m : ModuleId) (body : List Byte) (hl : body.length = 171)
    (hm : (body.getD 0 0).toNat = m.val) (ht : body.getD 1 0 = 0x81) : answerGood m (withCrc body) = true := by
  have h0 := byteAt_withCrc body 0 (by omega)
  have h1 := byteAt_withCrc body 1 (by omega)
  simp only [answerGood, withCrc_length, hl, h0, h1, crcChecks_withCrc, hm, ht]
  rfl

end Sys2Proof.Machine
end

