-- ==== Sys2Proof/Laws/Notices.lean ====
section
/-!
SUPPORT. What raising a notice can do, said once (R157, R162).
-/

namespace Sys2Proof.Machine.State

variable (s : State)

/-- Raising a notice is joining it to the sets of the ports named, DISABLED ports passed over. -/
theorem raiseIn_eq_notify (n : Notice) (who : Port → Bool) : s.raiseIn n who = s.notify n who := rfl

/-- A notice raised in every port. -/
theorem raise_eq_notify (n : Notice) : s.raise n = s.notify n fun _ => true := raiseIn_eq_notify s n _

/-- CLAIM_CHANGED goes to the facility ports that are not excepted (R142). -/
theorem claimChanged_eq_notify (p : Port) : s.claimChanged (· == p) = s.notify .claimChanged (s.otherFacility p) :=
  raiseIn_eq_notify s _ _

/-- A port's own record after a notice was raised. -/
theorem notify_get (n : Notice) (who : Port → Bool) (p : Port) :
    (s.notify n who).ports.get p =
      if who p = true ∧ s.role p ≠ .disabled then { s.ports.get p with notices := (s.ports.get p).notices ||| n.bit }
      else s.ports.get p := by
  simp only [notify, Table.get_imap]
  by_cases hw : who p = true <;> by_cases hd : s.role p = .disabled <;> simp [hw, hd]

@[simp] theorem notify_role (n : Notice) (who : Port → Bool) (p : Port) : (s.notify n who).role p = s.role p := by
  have h : ((s.notify n who).ports.get p).role = (s.ports.get p).role := by rw [notify_get]; split <;> rfl
  simp only [role]
  rw [h]
  rfl

/-- A raised notice is in the set of every port it was raised in. -/
theorem notify_holds (n : Notice) (who : Port → Bool) (p : Port) (hw : who p = true) (hd : s.role p ≠ .disabled) :
    n.bit &&& ((s.notify n who).ports.get p).notices = n.bit := by
  rw [notify_get, if_pos ⟨hw, hd⟩]
  ext i
  simp
  tauto

end Sys2Proof.Machine.State
end

