-- ==== Sys2Proof/Laws/Queue.lean ====
section
/-!
SUPPORT. What the operations on the actuation queue can do, said once (R96 to R98).
-/

namespace Sys2Proof.Machine.State

variable (s : State)

/-! ### Placing (R97) -/

/-- The queue takes an entry exactly where it has a place, none for the outlet and none of the tenant origin (R96). -/
theorem admits_iff (o : OutletId) (r : Origin) :
    s.admits o r = true ↔ s.queue.length < 32 ∧ (∀ e ∈ s.queue, e.outlet ≠ o)
      ∧ ∀ i, r = .tenant i → ∀ e ∈ s.queue, e.ofTenant i = false := by
  cases r <;> simp [admits, queueFull, and_assoc]

/-- Placing: the entry joins the tail, PENDING, where the queue admits it; else the queue is as it was. -/
theorem placeEntry_queue (o : OutletId) (a : Action) (r : Origin) :
    (s.placeEntry o a r).queue =
      if s.admits o r then
        s.queue ++ [{ outlet := o, action := a, origin := r, state := .pending, stale := .clear, offered := false }]
      else s.queue := by
  unfold placeEntry
  split <;> [(cases r <;> simp [updLive]); rfl]

/-- Placing sets the step in flight of a tenant origin, and nothing else of any tenant. -/
theorem placeEntry_live (o : OutletId) (a : Action) (r : Origin) (i : TenantId) :
    (s.placeEntry o a r).live.get i =
      if s.admits o r = true ∧ r = .tenant i then { s.live.get i with inFlight := some (o, a) } else s.live.get i := by
  unfold placeEntry
  split
  · rename_i h
    cases r with
    | tenant j =>
      simp only [updLive, Table.get_modify, h, true_and, Origin.tenant.injEq]
    | port p => simp
  · rename_i h
    simp [h]

/-- Placing keeps the bounds of R96: at most 32 entries, one for each outlet. -/
theorem placeEntry_bounds (o : OutletId) (a : Action) (r : Origin) (hl : s.queue.length ≤ 32)
    (hn : (s.queue.map (·.outlet)).Nodup) :
    (s.placeEntry o a r).queue.length ≤ 32 ∧ ((s.placeEntry o a r).queue.map (·.outlet)).Nodup := by
  rw [placeEntry_queue]
  split
  · rename_i h
    obtain ⟨h1, h2, -⟩ := (s.admits_iff o r).1 h
    refine ⟨by simp; omega, ?_⟩
    rw [List.map_append, List.nodup_append]
    refine ⟨hn, by simp, ?_⟩
    intro x hx y hy
    obtain ⟨e, he, rfl⟩ := List.mem_map.1 hx
    simp only [List.map_cons, List.map_nil, List.mem_singleton] at hy
    exact hy ▸ h2 e he
  · exact ⟨hl, hn⟩

/-! ### Leaving (R98) -/

/-- What is left after a removal was there before it, in the same order. -/
theorem removeEntries_sublist (gone : Entry → Bool) : (s.removeEntries gone).queue.Sublist s.queue :=
  List.filter_sublist

/-- A removal clears the step in flight of the tenants whose entries leave, and nothing else of any tenant. -/
theorem removeEntries_live_get (gone : Entry → Bool) (i : TenantId) :
    (s.removeEntries gone).live.get i =
      if s.queue.any fun e => gone e && e.ofTenant i then { s.live.get i with inFlight := none } else s.live.get i := by
  rw [removeEntries_live, Table.get_imap]

/-- The entry looked up by its outlet is in the queue and is that outlet's (Table 2-3). -/
theorem entryOf_some {o : OutletId} {e : Entry} (h : s.entryOf o = some e) : e ∈ s.queue ∧ e.outlet = o :=
  ⟨List.mem_of_find?_eq_some h, by simpa using List.find?_some h⟩

/-- An outlet without an entry has none in the queue. -/
theorem entryOf_none {o : OutletId} (h : s.entryOf o = none) : ∀ e ∈ s.queue, e.outlet ≠ o := by
  simpa [entryOf] using h

/-! ### Readings (R103, R104) -/

/-- All that a reading can do to an entry: nothing, its confirmation, its timeout, or one more sweep since issue. -/
theorem entryReading_cases (e : Entry) (reported : Option Relay) :
    s.entryReading e reported = s
      ∨ (s.entryReading e reported = s.confirmEntry e ∧ reported = some e.action.position)
      ∨ (s.entryReading e reported = s.timeoutEntry e ∧ reported ≠ some e.action.position)
      ∨ ∃ since point, e.state = .issued since point ∧ since + 1 < 3 ∧ reported ≠ some e.action.position
        ∧ s.entryReading e reported = s.updEntry e.outlet fun x => { x with state := .issued (since + 1) point } := by
  unfold entryReading
  split
  · exact .inl rfl
  · rename_i since point h
    split
    · split
      · rename_i hr; exact .inr (.inl ⟨rfl, hr⟩)
      · rename_i hr
        split
        · exact .inr (.inr (.inl ⟨rfl, hr⟩))
        · exact .inr (.inr (.inr ⟨since, point, h, by omega, hr, rfl⟩))
    · exact .inl rfl

end Sys2Proof.Machine.State
end

