-- ==== Sys2Proof/Laws/Ring.lean ====
section
/-!
SUPPORT. What the operations on the ring's slot store can do, said once: a slot read after a write, and the canonical
form that every operation keeps (R126).
-/

namespace Sys2Proof.Machine

/-! ### Reading after writing -/

theorem readSlot_nil (n : Nat) : readSlot [] n = none := rfl

theorem readSlot_cons (k n : Nat) (b : List Byte) (rest : List (Nat × List Byte)) :
    readSlot ((k, b) :: rest) n = if k = n then some b else readSlot rest n := by
  by_cases h : k = n <;> simp [readSlot, h]

/-- A slot reads back what was written into it. -/
theorem readSlot_writeSlot_same (n : Nat) (b : List Byte) (slots : List (Nat × List Byte)) :
    readSlot (writeSlot n b slots) n = some b := by
  induction slots with
  | nil => simp [writeSlot, readSlot_cons]
  | cons x rest ih =>
    obtain ⟨k, c⟩ := x
    simp only [writeSlot]
    split
    · simp [readSlot_cons]
    · split
      · simp [readSlot_cons]
      · rename_i h1 h2
        rw [readSlot_cons, if_neg (fun h => h2 h.symm), ih]

/-- A write leaves every other slot as it was. -/
theorem readSlot_writeSlot_ne (n m : Nat) (h : m ≠ n) (b : List Byte) (slots : List (Nat × List Byte)) :
    readSlot (writeSlot n b slots) m = readSlot slots m := by
  induction slots with
  | nil => simp [writeSlot, readSlot_cons, h.symm, readSlot_nil]
  | cons x rest ih =>
    obtain ⟨k, c⟩ := x
    simp only [writeSlot]
    split
    · rw [readSlot_cons, if_neg h.symm]
    · split
      · rename_i h2
        subst h2
        rw [readSlot_cons, if_neg h.symm, readSlot_cons, if_neg h.symm]
      · rw [readSlot_cons, readSlot_cons, ih]

/-! ### The canonical form -/

theorem slotsWf_iff (slots : List (Nat × List Byte)) :
    slotsWf slots = true ↔ (slots.map (·.1)).Pairwise (· < ·) ∧ ∀ x ∈ slots, x.1 < ringSize := by
  simp [slotsWf]

/-- What a write lists: the new slot, and slots that were listed. -/
theorem mem_writeSlot {n : Nat} {b : List Byte} {slots : List (Nat × List Byte)} {x : Nat × List Byte}
    (h : x ∈ writeSlot n b slots) : x = (n, b) ∨ x ∈ slots := by
  induction slots with
  | nil => simpa [writeSlot] using h
  | cons y rest ih =>
    obtain ⟨k, c⟩ := y
    simp only [writeSlot] at h
    split at h
    · simpa using h
    · split at h
      · rcases List.mem_cons.1 h with h | h <;> simp [h]
      · rcases List.mem_cons.1 h with h | h
        · simp [h]
        · rcases ih h with h | h <;> simp [h]

/-- A write keeps the slot numbers rising. -/
theorem writeSlot_pairwise (n : Nat) (b : List Byte) (slots : List (Nat × List Byte))
    (h : (slots.map (·.1)).Pairwise (· < ·)) : ((writeSlot n b slots).map (·.1)).Pairwise (· < ·) := by
  induction slots with
  | nil => simp [writeSlot]
  | cons y rest ih =>
    obtain ⟨k, c⟩ := y
    rw [List.map_cons, List.pairwise_cons] at h
    simp only [writeSlot]
    split
    · rename_i hn
      rw [List.map_cons, List.pairwise_cons, List.map_cons, List.pairwise_cons]
      refine ⟨?_, h⟩
      intro m hm
      rcases List.mem_cons.1 hm with rfl | hm
      · exact hn
      · exact lt_trans hn (h.1 m hm)
    · split
      · rename_i hn
        subst hn
        rw [List.map_cons, List.pairwise_cons]
        exact h
      · rename_i h1 h2
        rw [List.map_cons, List.pairwise_cons]
        refine ⟨?_, ih h.2⟩
        intro m hm
        obtain ⟨x, hx, rfl⟩ := List.mem_map.1 hm
        rcases mem_writeSlot hx with rfl | hx
        · simp only; omega
        · exact h.1 x.1 (List.mem_map_of_mem hx)

/-- Writing one slot keeps the canonical form. -/
theorem slotsWf_writeSlot (n : Nat) (b : List Byte) (slots : List (Nat × List Byte)) (hn : n < ringSize)
    (h : slotsWf slots = true) : slotsWf (writeSlot n b slots) = true := by
  rw [slotsWf_iff] at h ⊢
  refine ⟨writeSlot_pairwise n b slots h.1, fun x hx => ?_⟩
  rcases mem_writeSlot hx with rfl | hx
  · exact hn
  · exact h.2 x hx

/-- Writing a record's slots keeps the canonical form (R126). -/
theorem slotsWf_writeSlots (content : List (List Byte)) (start : Nat) (slots : List (Nat × List Byte))
    (h : slotsWf slots = true) : slotsWf (writeSlots start content slots) = true := by
  induction content generalizing start slots with
  | nil => exact h
  | cons b rest ih => exact ih _ _ (slotsWf_writeSlot _ _ _ (Nat.mod_lt _ (by decide)) h)

/-- Freeing slots keeps the canonical form (R120). -/
theorem slotsWf_filter (keep : Nat × List Byte → Bool) (slots : List (Nat × List Byte)) (h : slotsWf slots = true) :
    slotsWf (slots.filter keep) = true := by
  rw [slotsWf_iff] at h ⊢
  exact ⟨h.1.sublist (List.filter_sublist.map _), fun x hx => h.2 x (List.mem_of_mem_filter hx)⟩

/-- The drops of a close keep the canonical form (R120). -/
theorem slotsWf_dropForClose (s : State) (h : slotsWf s.ring.slots = true) : slotsWf s.dropForClose.ring.slots = true :=
  slotsWf_filter _ _ h

/-- The ring of the reset state has the canonical form. -/
theorem slotsWf_reset : slotsWf State.reset.ring.slots = true := by decide

/-- What the slots of a record are after it was written. -/
theorem mem_writeSlots {content : List (List Byte)} {start : Nat} {slots : List (Nat × List Byte)}
    {x : Nat × List Byte} (h : x ∈ writeSlots start content slots) : x.2 ∈ content ∨ x ∈ slots := by
  induction content generalizing start slots with
  | nil => exact Or.inr h
  | cons b rest ih =>
    rcases ih h with h | h
    · exact Or.inl (List.mem_cons_of_mem _ h)
    · rcases mem_writeSlot h with rfl | h
      · simp
      · exact Or.inr h

/-! ### Dropping -/

/-- What is dropped and what stays make up the records, in their order (R120). -/
theorem dropFor_append (held : Word → Bool) (need free : Nat) (records : List Rec) :
    (dropFor held need free records).1 ++ (dropFor held need free records).2 = records := by
  induction records generalizing free with
  | nil => rfl
  | cons r rest ih =>
    unfold dropFor
    split
    · rfl
    · simp [ih]

end Sys2Proof.Machine
end

