-- ==== Sys2Proof/Tests/Slice0.lean ====
section
/-!
SUPPORT. The author's own tests: ill-formed commands that the well-formedness check refuses, frames written out from
Table 11-3 that decode to their commands, single steps whose results the spec states, and for every statement with
hypotheses a state that meets them.
-/

namespace Sys2Proof.Tests

open Sys2Proof Sys2Proof.Machine

/-! ### Small states -/

/-- Roles FACILITY, FACILITY, COLLECTOR, VIEWER, as in the installation of 00_scope.md section 1.1. -/
def roles : Table PortState 4 :=
  (((Table.fill 4 PortState.reset).set 0 { PortState.reset with role := .facility }).set 1
    { PortState.reset with role := .facility }).set 2 { PortState.reset with role := .collector }
    |>.set 3 { PortState.reset with role := .viewer }

/-- A part just released from reset, UNCONFIGURED. -/
def fresh : State := { State.reset with ports := roles, pins := { Pins.reset with resetLine := false } }

/-- The state a command leaves. -/
def after (c : Instr) (s : State) : State :=
  match exec c s with
  | .next t => t
  | _ => s

/-- A contract of 10,000 W committed under a ceiling of 14,000 W, shed and restored by the part. -/
def contract0 : Contract :=
  { active := true, committed := 10000, ceiling := 14000, qmax := 1200000, restore := 600000, shift := 3, dwell := 10,
    policy := .shedAuto, cls := .paired }

/-- Tenant 0 on outlets 0 to 23 of module 0, shed list 5, 6; sweeps of 10 s, intervals of 60 s. -/
def config : Configuration :=
  { contracts := (Table.fill 64 Contract.empty).set 0 contract0
    lists := (Table.fill 64 []).set 0 [5, 6]
    windows := (Table.fill 96 none).set 0 (some { first := 0, last := 23, tenant := 0 })
    modules := (Table.fill 16 { used := false, feed := .a }).set 0 { used := true, feed := .a }
    timing := { period := 10, length := 60, timeout := 30 } }

/-- A RUNNING part under `config`, module 0 PRESENT, interval 2 open, record 1 of three slots in the ring, outlet 5 in
tenant 0's stack with its restore in the queue ahead of an OPEN of outlet 7 from P1. -/
def running : State :=
  { fresh with
    run := .running, seconds := 100, nextDue := some 110
    committed := config.committed
    attribution := attributionOf config.windows
    modules := (Table.fill 16 ModuleLive.reset).set 0
      { state := .present, misses := 0, feedPresent := true, moduleFault := false }
    outlets := (((Table.fill 384 Outlet.initial).set 5 { Outlet.initial with relay := .opened, cause := .shed }).set 6
      { Outlet.initial with relay := .closed, power := 3000, baseline := some 5000 }).set 7
      { Outlet.initial with relay := .closed, baseline := some 0 }
    live := (Table.fill 64 Live.vacant).set 0
      { Live.vacant with
        demand := 9000, credit := 600000, curtailment := .curtailed, stack := [5]
        inFlight := some (5, .closing), sinceStep := 11 }
    queue :=
      [{ outlet := 5, action := .closing, origin := .tenant 0, state := .pending, stale := .clear, offered := false },
       { outlet := 7, action := .opening, origin := .port 1, state := .pending, stale := .clear, offered := false }]
    closer := { Closer.reset with sequence := 2, startSecond := 60, counted := 3, target := 6, generation := 1 }
    ring :=
      { slots := [(0, List.replicate 64 1), (1, List.replicate 64 2), (2, List.replicate 64 2)]
        records := [{ sequence := 1, start := 0, length := 3 }], building := none, writePos := 3 } }

/-- A sweep that is about to come to index `next`. -/
def sweepAt (next : Nat) : Sweep :=
  { owed := false, next := next, retry := none, finished := false, lastPoll := .fill 16 none, capture := .fill 16 none }

/-- The body of an answer of module 0: feed present, outlet 6 CLOSED at 3,000 W with counter 35,000, no other channel
valid. -/
def body0 : List Byte :=
  [0x00, 0x81, 0x01] ++ List.replicate 42 0 ++ [0x01, 0x0B, 0xB8, 0x00, 0x00, 0x88, 0xB8] ++ List.replicate 119 0

/-- That answer with its CRC. -/
def answer0 : List Byte := withCrc body0

/-- The sweep whose polls are finished, module 0 polled at moment 5 with `answer0` in the capture. -/
def finishedSweep : Sweep :=
  { sweepAt 16 with
    finished := true, lastPoll := (Table.fill 16 none).set 0 (some 5)
    capture := (Table.fill 16 none).set 0 (some (answerOf answer0)) }

/-- `running` with that sweep waiting for its accounting. -/
def swept : State := { running with sweep := some finishedSweep }

/-! ### Well-formedness: each check refuses an ill-formed command -/

theorem test_wf_refuses_unknown_with_request_code : (Instr.unknownRequest 0 .selectRises 0x10).wf = false := by decide

theorem test_wf_takes_unknown_code : (Instr.unknownRequest 0 .selectRises 0x19).wf = true := by decide

theorem test_wf_refuses_short_shed_list : (Instr.stageShedList 0 .selectRises 0 2 [5]).wf = false := by decide

theorem test_wf_refuses_long_shed_list : (Instr.stageShedList 0 .selectRises 0 1 [5, 6]).wf = false := by decide

theorem test_wf_refuses_list_after_count_17 : (Instr.stageShedList 0 .selectRises 0 17 [5]).wf = false := by decide

theorem test_wf_takes_full_shed_list :
    (Instr.stageShedList 0 .selectRises 0 16 (List.replicate 16 5)).wf = true := by decide

/-! ### Bits and bytes -/

/-- The table gives no bits: no word spells a command, and nothing is put in front of the queue. -/
theorem test_no_word_spells_a_command :
    decodeTableWord 8 0x10 = none ∧ State.reset.withFetchWord 8 0x10 = State.reset := by decide +kernel

/-- The check value of the CRC with register 0xFFFF, generator 0x1021 and no inversion, over the digits 1 to 9 in
ASCII; the value is the published one of that CRC, from outside the spec. -/
theorem test_crc_check_value : crc16 [0x31, 0x32, 0x33, 0x34, 0x35, 0x36, 0x37, 0x38, 0x39] = 0x29B1 := by
  decide +kernel

theorem test_answer_is_good : answerGood 0 answer0 = true :=
  answerGood_withCrc 0 body0 (by decide +kernel) (by decide +kernel) (by decide +kernel)

/-- An answer from another address is not good. -/
theorem test_answer_of_other_module : answerGood 1 answer0 = false := by
  have h : (byteAt answer0 0).toNat = 0 := by decide +kernel
  simp [answerGood, h]

theorem test_answer_block :
    (answerOf answer0).blocks.get 6 = { valid := true, opened := false, power := 3000, counter := 35000 } := by
  decide +kernel

/-! ### Frames of Table 11-3, one of each family -/

theorem test_frame_read_outlet :
    decodeFrame 0 true false false [0x15, 0x01, 0x7F] = .readOutlet 0 .selectRises 383 := by decide

theorem test_frame_read_config :
    decodeFrame 0 true true false [0x18, 0x01] = .readConfig 0 .selectRises 1 true := by decide

theorem test_frame_set_alert_mask :
    decodeFrame 1 true false false [0x21, 0x20, 0x04] = .setAlertMask 1 .selectRises 0x2004 := by decide

theorem test_frame_ack_records :
    decodeFrame 2 true false false [0x32, 0x00, 0x01, 0x00, 0x02] = .ackRecords 2 .selectRises 65538 := by decide

theorem test_frame_stage_tenant :
    decodeFrame 0 true false false
      [0x45, 14, 1, 0, 0, 0x1F, 0x40, 0, 0, 0x27, 0x10, 0, 0, 0, 9, 0, 0, 0, 7, 3, 10, 2, 1]
      = .stageTenant 0 .selectRises 14 1 8000 10000 9 7 3 10 2 1 := by decide

theorem test_frame_stage_shed_list :
    decodeFrame 0 true false false [0x47, 21, 2, 0, 40, 1, 0x2C] = .stageShedList 0 .selectRises 21 2 [40, 300] := by
  decide

theorem test_frame_short_shed_list :
    decodeFrame 0 true false false [0x47, 21, 2, 0, 40, 1] = .frameDiscard 0 .selectRises := by decide

theorem test_frame_set_outlet :
    decodeFrame 0 true false false [0x50, 0x00, 0x28, 0x01] = .setOutlet 0 .selectRises 40 1 := by decide

theorem test_frame_end_interval :
    decodeFrame 0 true false false [0x52] = .endInterval 0 .selectRises := by decide

/-! ### Arithmetic of the worked examples -/

/-- The counter of R47's example has wrapped once: the delta is 10,296. -/
theorem test_delta_wraps : counterDelta 3000 4294960000 = 10296 := by decide

/-- Section 4.8: sweep 4 rises, sweeps 7 and 8 fall by floors of negative quotients. -/
theorem test_smooth_example :
    smooth 2 12063 16000 = 13047 ∧ smooth 2 14339 13000 = 14004 ∧ smooth 2 14004 13000 = 13753 := by decide

/-- Section 5.9, sweeps 15 to 17: S goes on from 9,847 under a draw of 9,000 W. -/
theorem test_smooth_settles : smooth 2 9847 9000 = 9635 ∧ smooth 2 9635 9000 = 9476 ∧ smooth 2 9476 9000 = 9357 := by
  decide

/-- Tenant 21 of section 4.8. -/
def contract21 : Contract := { contract0 with shift := 2, restore := 1000000 }

/-- Section 4.8: sweep 6 drains 4,339 and is OVER, sweep 8 is BURST, sweep 14 refills 153. -/
theorem test_credit_example :
    newCredit contract21 1 1190355 14339 = 1186016 ∧ zoneOf contract21 14339 1186016 = .over
      ∧ zoneOf contract21 13753 1178259 = .burst ∧ newCredit contract21 1 1172380 9847 = 1172533
      ∧ zoneOf contract21 9847 1172533 = .within := by decide

/-! ### Single steps -/

/-- RESET_RELEASE with PnROLE1 high on P0 to P2 and PnROLE0 high on P0, P1 and P3 gives `fresh` its roles (Table 10-1). -/
theorem test_reset_release_roles :
    let t := after (.resetRelease 0b0111 0b1011) State.reset
    t.role 0 = .facility ∧ t.role 1 = .facility ∧ t.role 2 = .collector ∧ t.role 3 = .viewer := by decide +kernel

/-- Section 9.7: a contract with its ceiling below its level fails check 2 at its tenant. -/
theorem test_seal_invalid_reports_check_2 :
    let bad := { config with contracts := config.contracts.set 14 { contract0 with committed := 8000, ceiling := 6000 } }
    let t := after (.sealAmendment 0 .selectRises 0 false) { running with claim := .opened 0 3 bad }
    t.report = { check := 2, item := 14 } ∧ (t.ports.get 0).result = .invalid
      ∧ t.claim = .opened 0 3 bad := by decide +kernel

/-- Section 9.7: overlapping windows fail check 3 at the later slot. -/
theorem test_seal_invalid_reports_check_3 :
    let bad := { config with windows := config.windows.set 12 (some { first := 20, last := 43, tenant := 0 }) }
    bad.validate = some { check := 3, item := 12 } := by decide +kernel

/-- The four cases of Table 2-4 on one outlet (the foreign rule). -/
theorem test_foreign_rule :
    let s := { running with queue := [] }
    ((s.foreignRule 6 .opened).outlets.get 6).cause = .foreign
      ∧ ((s.foreignRule 5 .closed).outlets.get 5).cause = .none
      ∧ ((s.foreignRule 5 .closed).live.get 0).stack = [] ∧ ((s.foreignRule 5 .closed).live.get 0).curtailment = .clear := by
  decide +kernel

/-- A good reading (R47, R48): outlet 6's counter rose by 30,000 since its baseline, all of it tenant 0's on feed A. -/
theorem test_reading_credits_counter :
    let b : Block := { valid := true, opened := false, power := 2900, counter := 35000 }
    let t := running.applyGood 6 b
    (t.accruals.get 0).energy.energyA = 30000 ∧ (t.outlets.get 6).baseline = some 35000
      ∧ (t.outlets.get 6).power = 2900 := by decide +kernel

/-- A missing reading (R50): 3,000 W for 10 s are estimated and held as pending. -/
theorem test_missing_reading_estimates :
    let t := running.applyMissing 6
    (t.accruals.get 0).energy.estimated = 30000 ∧ (t.outlets.get 6).estimate = 30000 ∧ (t.outlets.get 6).gap = 10
      ∧ t.closer.noteEstimates = true := by decide +kernel

/-- PART_RESET keeps each port's role until the next release of reset, though RESET makes the port act DISABLED (R156). -/
theorem test_part_reset_keeps_roles :
    let t := after .partReset running
    (t.ports.get 0).role = .facility ∧ (t.ports.get 3).role = .viewer ∧ t.role 0 = .disabled ∧ t.run = .unconfigured := by
  decide +kernel

/-- What READ_MODULE of module 0 clocks out (Table 11-1): status, 0xFF for its argument, six bytes, then 0xFF; refused, it
clocks 0xFF out in place of a response. -/
theorem test_read_module_data_out :
    let t := after (.readModule 3 .snapshot 0) running
    let u := after (.readModule 3 .snapshot 16) running
    (List.range 9).map (t.dataOut 3 1) = [0x01, 0xFF, 1, 0, 2, 0, 1, 0, 0xFF].map some
      ∧ (List.range 4).map (u.dataOut 3 1) = [0x01, 0xFF, 0xFF, 0xFF].map some := by decide +kernel

/-- READ_OUTLET of outlet 6 (R166): record, owner 0, feed A, and no queue position. -/
theorem test_read_outlet_order :
    running.outletReply 6 = [0x0B, 0xB8, 1, 0, 0, 0x13, 0x88, 0, 0, 0, 0, 0, 0, 0, 0, 0, 0, 0, 0, 0, 0, 0] := by
  decide +kernel

/-! ### States that meet the hypotheses of the statements -/

/-- `running` with `c` waiting. -/
def waiting (c : Instr) : State := { running with pending := [c] }

theorem running_outlets (o : OutletId) :
    running.outlets.get o =
      if 7 = o then { Outlet.initial with relay := .closed, baseline := some 0 }
      else if 6 = o then { Outlet.initial with relay := .closed, power := 3000, baseline := some 5000 }
      else if 5 = o then { Outlet.initial with relay := .opened, cause := .shed } else .initial := by
  simp only [running, Table.get_set, Table.get_fill]

theorem running_live (i : TenantId) :
    running.live.get i =
      if 0 = i then
        { Live.vacant with
          demand := 9000, credit := 600000, curtailment := .curtailed, stack := [5]
          inFlight := some (5, .closing), sinceStep := 11 }
      else .vacant := by
  simp only [running, Table.get_set, Table.get_fill]

theorem running_used (m : ModuleId) : running.used m = decide (0 = m) := by
  simp only [State.used, running, Configuration.committed, config, Table.get_set, Table.get_fill]
  split <;> simp_all

theorem running_contract (i : TenantId) : running.contract i = if 0 = i then contract0 else .empty := by
  simp only [State.contract, running, Configuration.committed, config, Table.get_set, Table.get_fill]

theorem witness_StepRunsFrontCommand : fresh.pending = [] := rfl

theorem witness_StepKeepsRingStore :
    ∃ t, (waiting .closeBuildRecord).ringSound ∧ step (waiting .closeBuildRecord) = .next t :=
  ⟨_, ⟨by decide, by decide, by decide⟩, rfl⟩

theorem witness_StepKeepsQueueDiscipline :
    ∃ t, (waiting .pollStart).queueSound ∧ step (waiting .pollStart) = .next t := by
  refine ⟨_, ⟨by decide, by decide, by decide +kernel, by decide +kernel, ?_, ?_⟩, rfl⟩
  · show ∀ o, running.used (moduleOfOutlet o) = false → running.outlets.get o = .initial
    intro o h
    rw [running_used] at h
    have hm : 0 ≠ moduleOfOutlet o := of_decide_eq_false h
    rw [running_outlets, if_neg, if_neg, if_neg] <;> rintro rfl <;> exact hm (by decide)
  · show ∀ i, ∀ o ∈ (running.live.get i).stack, running.used (moduleOfOutlet o) = true
    intro i o
    rw [running_live, running_used]
    split
    · intro h
      obtain rfl : o = 5 := by simpa using h
      decide
    · intro h
      simp [Live.vacant] at h

/-- `running` with the claim open on P0, one second short of its timeout. -/
def claimed : State := { running with claim := .opened 0 29 config }

theorem witness_StepKeepsPortDiscipline :
    ∃ t, { claimed with pending := [.resetPort 0 .selectRises] }.portsSound
      ∧ step { claimed with pending := [.resetPort 0 .selectRises] } = .next t :=
  ⟨_, ⟨by decide, by decide, by rintro p n c ⟨⟩; decide⟩, rfl⟩

/-- A queue of tenant 0's restore and a port's entry, under which the stack of tenant 0 holds the one outlet of cause
SHED, is sound. -/
theorem stacksSound_of {s : State} {l : Live} {e x : Entry} (hq : s.queue = [e, x])
    (hl : ∀ i, s.live.get i = if 0 = i then l else .vacant) (ha : ∀ i, (s.contract i).active = false → 0 ≠ i)
    (ho : ∀ o, (s.outlets.get o).cause = .shed ↔ o = e.outlet) (hs : l.stack = [e.outlet])
    (hf : l.inFlight = some (e.outlet, .closing)) (he : e.origin = .tenant 0 ∧ e.action = .closing ∧ e.stale = .clear)
    (hx : x.origin = .port 1) (hne : e.outlet ≠ x.outlet) : s.stacksSound := by
  have hstack : ∀ i, (s.live.get i).stack = if 0 = i then [e.outlet] else [] := by
    intro i; rw [hl]; split
    · exact hs
    · rfl
  refine ⟨⟨fun i h => ?_, fun i => ?_, fun i o a => ?_⟩, by simp [hq, hne], fun y hy => ?_, fun i => ?_, fun i j o => ?_,
    fun o => ?_⟩
  · rw [hl, if_neg (ha i h)]
  · simp [hq, Entry.ofTenant, hx, List.countP_cons]; split <;> simp
  · rw [hl, hq]
    constructor
    · split
      · rename_i h
        rw [hf]
        rintro ⟨⟩
        exact ⟨e, by simp, by rw [he.1, h], rfl, he.2.1, by rw [he.2.2]; decide⟩
      · rintro ⟨⟩
    · rintro ⟨y, hy, h1, rfl, rfl, -⟩
      simp only [List.mem_cons, List.not_mem_nil, or_false] at hy
      rcases hy with rfl | rfl
      · rw [he.1] at h1
        cases h1
        rw [if_pos rfl, hf, he.2.1]
      · rw [hx] at h1; cases h1
  · simp only [hq, List.mem_cons, List.not_mem_nil, or_false] at hy
    rcases hy with rfl | rfl
    · simp only [State.entrySound, he, hstack]; simp
    · simp only [State.entrySound, hx, Ne, ho]; exact fun h => hne h.symm
  · rw [hstack]; split <;> simp
  · rw [hstack, hstack]; split <;> split <;> simp_all
  · rw [ho]
    constructor
    · rintro rfl; exact ⟨0, by rw [hstack]; simp⟩
    · rintro ⟨i, hi⟩; rw [hstack] at hi; split at hi <;> simp_all

theorem active_ne (i : TenantId) (h : (running.contract i).active = false) : 0 ≠ i := by
  rintro rfl; revert h; decide

theorem running_shed (o : OutletId) : (running.outlets.get o).cause = .shed ↔ o = 5 := by
  rw [running_outlets]
  split
  · rename_i h; subst h; decide
  · split
    · rename_i h; subst h; decide
    · split
      · rename_i h; subst h; decide
      · rename_i h; simp [Outlet.initial, Ne.symm h]

theorem running_stacks : running.stacksSound :=
  stacksSound_of rfl running_live active_ne running_shed rfl rfl ⟨rfl, rfl, rfl⟩ rfl (by decide)

theorem witness_StepKeepsStepsInFlight :
    ∃ t, (waiting .relayExchangeStart).stepsSound ∧ step (waiting .relayExchangeStart) = .next t :=
  ⟨_, running_stacks.1, rfl⟩

theorem witness_StepKeepsShedCausesInStacks :
    ∃ t, (waiting .relayExchangeStart).stacksSound ∧ step (waiting .relayExchangeStart) = .next t :=
  ⟨_, running_stacks, rfl⟩

theorem running_accruals : running.accrualsInRange := by
  refine ⟨⟨fun o => ?_, by rintro w ⟨⟩, fun m => ?_⟩, fun i => ?_, fun i => ?_, fun i => ?_, ?_⟩
  · rw [running_outlets]
    split
    · decide
    · split
      · decide
      · split <;> decide
  · simp only [running, Table.get_set, Table.get_fill]; split <;> decide
  · rw [running_live]; split <;> decide
  · rw [running_contract, running_live]; split <;> decide
  · show (State.reset.accruals.get i).inRange
    simp only [State.reset, Table.get_fill, Accumulators.inRange, EnergyAcc.inRange, Accumulators.zero, EnergyAcc.zero]
    decide
  · simp only [running, fresh, State.reset, EnergyAcc.inRange, EnergyAcc.zero]
    decide

theorem witness_StepKeepsAccrualAndCountRanges :
    ∃ t, (waiting .secondTick).accrualsInRange ∧ (waiting .secondTick).countsInRange
      ∧ step (waiting .secondTick) = .next t :=
  ⟨_, running_accruals, ⟨by decide, by decide, by decide⟩, rfl⟩

theorem config_inRange : config.inRange := by
  refine ⟨fun i => ?_, fun i => ?_, by unfold Timing.inRange; decide⟩
  · simp only [config, Table.get_set, Table.get_fill]
    split <;> simp only [Contract.inRange] <;> decide
  · simp only [config, Table.get_set, Table.get_fill]
    split <;> decide

theorem config_valid : config.validate = none := by decide +kernel


theorem running_lists (i : TenantId) : running.shedList i = config.lists.get i := by
  revert i; decide +kernel

theorem running_copy : running.shadowCopy = config := by
  have h : running.shadowCopy.lists = config.lists :=
    Table.ext_get fun i => by rw [← running_lists]; exact Table.get_tabulate _ _
  show { config with lists := running.shadowCopy.lists } = config
  rw [h]

theorem witness_StepKeepsConfigurationsValidAndMapped :
    ∃ t, { claimed with pending := [.closeApply] }.configurationsSound
      ∧ { claimed with pending := [.closeApply] }.attributionSound
      ∧ step { claimed with pending := [.closeApply] } = .next t := by
  have hc : State.shadowCopy { claimed with pending := [.closeApply] } = config := running_copy
  refine ⟨_, ⟨?_, ?_, ?_, ?_, ?_⟩, rfl, rfl⟩
  · rw [hc]; exact config_inRange
  · rw [hc]; exact config_valid
  · rintro p n c ⟨⟩; exact config_inRange
  · rintro c ⟨⟩
  · rintro k c ⟨⟩

/-- `fresh` with a claim open on P0 whose shadow is `config`. -/
def freshClaimed : State := { fresh with claim := .opened 0 3 config }

theorem freshClaimed_unconfigured : freshClaimed.unconfiguredSound :=
  fun _ => ⟨rfl, rfl, rfl, rfl, rfl, rfl, rfl, rfl⟩

theorem witness_StepKeepsUnconfiguredPart :
    ∃ t, { freshClaimed with pending := [.secondTick] }.unconfiguredSound
      ∧ step { freshClaimed with pending := [.secondTick] } = .next t :=
  ⟨_, freshClaimed_unconfigured, rfl⟩

/-- `running` with P2 in RETAIN, holding record 1. -/
def retained : State :=
  { running with ports := running.ports.modify 2 fun q => { q with delivery := .retain 1 0 0 } }

theorem witness_HeldRecordsStayInRing :
    ∃ t, { sequence := 1, start := 0, length := 3 } ∈ retained.ring.records ∧ retained.held 1 = true
      ∧ exec (.endInterval 0 .selectRises) retained = .next t :=
  ⟨_, by decide, by decide, rfl⟩

/-- Room made exactly by the second of three records. -/
theorem witness_HeldRecordsStayInRing_room :
    let r : Rec := { sequence := 1, start := 0, length := 3 }
    (dropFor (fun _ => false) 6 0 [r, r, r]).1 = [r] ++ [r]
      ∧ 6 ≤ 0 + (([r, r, r].takeWhile fun _ => !false).map (·.length)).sum := by decide

theorem witness_OtherRolesChangeOnlyTheirPort :
    ∃ t, (Instr.setAlertMask 3 .selectRises 1).port? = some 3 ∧ running.role 3 ≠ .facility
      ∧ (∀ n k, running.claim ≠ .opened 3 n k) ∧ exec (.setAlertMask 3 .selectRises 1) running = .next t :=
  ⟨_, rfl, by decide, by rintro n k ⟨⟩, rfl⟩

/-- `running` at its next-due second. -/
def due : State := { running with seconds := 110 }

theorem witness_TickCountsSecondAndTimesClaim : running.nextDue ≠ some running.seconds := by decide

theorem witness_TickCountsSecondAndTimesClaim_due :
    ∃ d, due.nextDue = some due.seconds ∧ due.committed.timing.inRange ∧ exec .duePoint due = .next d :=
  ⟨_, rfl, by unfold Timing.inRange; decide, rfl⟩

theorem witness_DuePointStartsOrOverrunsSweep :
    due.nextDue = some due.seconds ∧ due.sweep = none ∧ running.nextDue ≠ some running.seconds
      ∧ { due with sweep := some (sweepAt 0) }.nextDue = some { due with sweep := some (sweepAt 0) }.seconds := by
  decide

theorem witness_ClaimExpiryDropsClaim :
    claimed.claim = .opened 0 29 config ∧ claimed.role 0 = .facility ∧ claimed.committed.timing.timeout ≤ 29 + 1
      ∧ 28 + 1 < claimed.committed.timing.timeout := ⟨rfl, by decide, by decide, by decide⟩

/-- `running` with a sweep in progress that comes to index `next`. -/
def sweeping (next : Nat) : State := { running with sweep := some (sweepAt next) }

theorem witness_PollStartWalksUsedModules_retry :
    let w : Sweep := { sweepAt 1 with retry := some 0 }
    { running with sweep := some w }.offered? = none ∧ w.finished = false ∧ w.retry = some 0 ∧ running.used 0 = true := by
  decide

theorem witness_PollStartWalksUsedModules_first :
    (sweeping 0).sweep = some (sweepAt 0) ∧ (sweeping 0).link.exchange = none ∧ (sweeping 0).offered? = none
      ∧ (sweepAt 0).retry = none ∧ (sweeping 0).used 0 = true ∧ (∀ k : ModuleId, k < 0 → running.used k = false) := by
  refine ⟨rfl, rfl, rfl, rfl, by decide, fun k h => absurd h (by simp)⟩

theorem witness_PollStartWalksUsedModules_end :
    (sweeping 1).offered? = none ∧ (sweepAt 1).finished = false ∧ (sweepAt 1).retry = none
      ∧ ∀ k, (sweepAt 1).next ≤ k.val → (sweeping 1).used k = false := by
  refine ⟨rfl, rfl, rfl, fun k hk => ?_⟩
  show running.used k = false
  rw [running_used]
  have : (1 : Nat) ≤ k.val := hk
  exact decide_eq_false (by rintro rfl; simp at this)

theorem witness_PollStartWalksUsedModules_nothing :
    running.sweep = none ∧ swept.sweep = some finishedSweep ∧ finishedSweep.finished = true
      ∧ { sweeping 0 with link := { Link.reset with exchange := some (.relay 5 .closing true) } }.link.exchange ≠ none
      ∧ { sweeping 0 with link := { Link.reset with gap := .poll 1 } }.offered? ≠ none := by
  refine ⟨rfl, rfl, rfl, by decide, by decide +kernel⟩

/-- `running` with module 0's poll on the link, its first or its retry, its record holding `x`. -/
def polled (again : Bool) (x : ModuleLive) : State :=
  { sweeping 1 with
    link := { Link.reset with exchange := some (.poll 0 again false) }, modules := (Table.fill 16 .reset).set 0 x }

theorem witness_GoodAnswerMakesModulePresent :
    let s := polled false { state := .lost, misses := 255, feedPresent := false, moduleFault := true }
    s.link.exchange = some (.poll 0 false false) ∧ s.sweep = some (sweepAt 1) ∧ s.used 0 = true
      ∧ answerGood 0 answer0 = true := ⟨rfl, rfl, by decide, test_answer_is_good⟩

theorem witness_FailedPollOwesRetryThenCountsMiss :
    let s := polled false { state := .present, misses := 0, feedPresent := true, moduleFault := false }
    s.link.exchange = some (.poll 0 false false) ∧ s.sweep = some (sweepAt 1) ∧ s.used 0 = true
      ∧ answerGood 0 [] = false := ⟨rfl, rfl, by decide, by decide⟩

theorem witness_FailedPollOwesRetryThenCountsMiss_retry :
    let s := polled true { state := .missed, misses := 1, feedPresent := true, moduleFault := false }
    let u := polled true { state := .lost, misses := 255, feedPresent := true, moduleFault := false }
    s.link.exchange = some (.poll 0 true false) ∧ s.used 0 = true ∧ (s.modules.get 0).state ≠ .unused
      ∧ (s.modules.get 0).misses + 1 < 3 ∧ u.used 0 = true ∧ (u.modules.get 0).state = .lost := by decide

theorem witness_ModuleEntersLostDropsItsEntries :
    let s := polled true { state := .missed, misses := 2, feedPresent := true, moduleFault := false }
    s.link.exchange = some (.poll 0 true false) ∧ s.used 0 = true ∧ 3 ≤ (s.modules.get 0).misses + 1
      ∧ (s.modules.get 0).state ≠ .unused ∧ (s.modules.get 0).state ≠ .lost := by decide

theorem witness_ModuleEntersLostDropsItsEntries_nothing :
    (∀ d, running.link.exchange ≠ some (.poll 0 true d))
      ∧ { running with link := { Link.reset with exchange := some (.poll 3 true true) } }.link.exchange
        = some (.poll 3 true true) := ⟨by decide, rfl⟩

theorem witness_RelayExchangeOffersAndIssuesEntry :
    let e : Entry :=
      { outlet := 5, action := .closing, origin := .tenant 0, state := .pending, stale := .clear, offered := false }
    let b : Entry :=
      { outlet := 7, action := .opening, origin := .port 1, state := .pending, stale := .clear, offered := false }
    running.queue = [] ++ e :: [b] ∧ (running.queue.map (·.outlet)).Nodup ∧ running.pins.actuationHold = false
      ∧ (running.modules.get (moduleOfOutlet e.outlet)).state = .present ∧ running.relayTurn = true
      ∧ { sweeping 0 with link := { Link.reset with gap := .poll 1 } }.relayTurn = true := by decide

theorem witness_RelayExchangeOffersAndIssuesEntry_second :
    let e : Entry :=
      { outlet := 5, action := .closing, origin := .tenant 0, state := .pending, stale := .clear, offered := true }
    let b : Entry :=
      { outlet := 7, action := .opening, origin := .port 1, state := .pending, stale := .clear, offered := false }
    let s : State := { running with queue := [e, b] }
    s.queue = [e] ++ b :: [] ∧ s.offerable e = false ∧ s.relayTurn = true ∧ b.offered = false := by decide

theorem witness_RelayExchangeOffersAndIssuesEntry_none :
    { running with pins := { running.pins with actuationHold := true } }.pins.actuationHold = true
      ∧ { running with link := { Link.reset with exchange := some (.relay 5 .closing true) } }.link.exchange
        = some (.relay 5 .closing true)
      ∧ (∀ e ∈ running.queue,
        (({ running with modules := .fill 16 .reset }.modules.get (moduleOfOutlet e.outlet)).state ≠ .present
          ∧ ({ running with modules := .fill 16 .reset }.modules.get (moduleOfOutlet e.outlet)).state ≠ .missed))
      ∧ { running with link := { Link.reset with gap := .poll 2 } }.link.gap = .poll 2
      ∧ (sweeping 1).link.gap = .idle ∧ (sweepAt 1).finished = false
      ∧ ∀ o a live, running.link.exchange ≠ some (.relay o a live) :=
  ⟨rfl, rfl, by decide, rfl, rfl, rfl, by rintro o a live ⟨⟩⟩

/-- Two exchanges are placed already, and polls are in progress: nothing is offered (R99). -/
theorem test_relay_start_waits_its_turn :
    after .relayExchangeStart { sweeping 1 with link := { Link.reset with gap := .poll 2 } }
        = { sweeping 1 with link := { Link.reset with gap := .poll 2 } }
      ∧ after .relayExchangeStart (sweeping 1) = sweeping 1 := by decide +kernel

/-- The edges of the dead band for the smallest and the largest shift with one. -/
theorem witness_SmoothedDemandApproachesDraw :
    (99 : Nat) ≤ 100 + 2 ^ (1 - 1) ∧ (99 : Nat) + 2 ^ (1 - 1) ≤ 100 ∧ (100 : Nat) + 2 ^ (6 - 1) ≤ 132
      ∧ (67 : Nat) + 2 ^ (6 - 1) < 100 := by decide

theorem witness_GoodReadingCreditsEnergy :
    let x : Outlet := { Outlet.initial with gap := 65525, estimate := 1, baseline := some 0 }
    x.gap + running.committed.timing.period = 65535 ∧ ((1073725440 : Word) - 0).toNat = 16384 * 65535
      ∧ 0 < x.estimate ∧ 65535 < 65526 + running.committed.timing.period
      ∧ 16384 * 10 < ((163841 : Word) - 0).toNat := by decide

/-- In `swept` outlet 7's reading is missing with a baseline; from a baseline just above its counter outlet 6's is void. -/
theorem witness_GoodReadingCreditsEnergy_accounting :
    swept.sweep = some finishedSweep ∧ finishedSweep.finished = true ∧ swept.closer.close = .idle
      ∧ swept.readingOf finishedSweep 7 = .missing ∧ (swept.outlets.get 7).baseline ≠ none
      ∧ swept.readingOf finishedSweep 6 = .good { valid := true, opened := false, power := 3000, counter := 35000 }
      ∧ 16384 * (0 + swept.committed.timing.period) < ((35000 : Word) - 35001).toNat :=
  ⟨rfl, rfl, rfl, by decide +kernel, by decide +kernel, by decide +kernel, by decide +kernel⟩

/-! #### Accounting and close -/

theorem witness_AccountingWaitsOrCountsSweep :
    running.sweep = none ∧ (sweepAt 0).finished = false ∧ swept.sweep = some finishedSweep
      ∧ finishedSweep.finished = true ∧ swept.closer.close = .idle ∧ swept.closer.counted + 1 ≠ swept.closer.target := by
  refine ⟨rfl, rfl, rfl, rfl, rfl, by decide⟩

/-- Outlet 6 has a good reading in `finishedSweep`, outlet 7 a missing one, outlet 24 none. -/
theorem witness_AccountingAppliesReadings :
    swept.used (moduleOfOutlet 6) = true ∧ (finishedSweep.lastPoll.get (moduleOfOutlet 6)).isSome = true
      ∧ finishedSweep.capture.get (moduleOfOutlet 6) = some (answerOf answer0)
      ∧ ((answerOf answer0).blocks.get (channelOfOutlet 6)).valid = true
      ∧ ((answerOf answer0).blocks.get (channelOfOutlet 7)).valid = false ∧ swept.used (moduleOfOutlet 24) = false
      ∧ (∀ e ∈ swept.queue, e.outlet ≠ 6) := by
  refine ⟨by decide, by decide, rfl, by decide +kernel, by decide +kernel, by decide, by decide⟩

/-- `swept` with outlet 6 on top of tenant 0's stack instead, its restore issued before the poll of `finishedSweep`, and
P1's OPEN of outlet 7 twice observed without confirmation. -/
def restoring : State :=
  { swept with
    outlets := (swept.outlets.set 5 .initial).set 6
      { Outlet.initial with relay := .opened, cause := .shed, power := 3000, baseline := some 5000 }
    live := swept.live.modify 0 fun l => { l with stack := [6], inFlight := some (6, .closing) }
    queue :=
      [{ outlet := 6, action := .closing, origin := .tenant 0, state := .issued 0 4, stale := .clear, offered := false },
       { outlet := 7, action := .opening, origin := .port 1, state := .issued 2 4, stale := .clear, offered := false }] }

theorem restoring_stacks : restoring.stacksSound := by
  refine stacksSound_of
    (l := { Live.vacant with
      demand := 9000, credit := 600000, curtailment := .curtailed, stack := [6]
      inFlight := some (6, .closing), sinceStep := 11 })
    rfl (fun i => ?_) active_ne (fun o => ?_) rfl rfl ⟨rfl, rfl, rfl⟩ rfl (by decide)
  · show (running.live.modify 0 _).get i = _
    rw [Table.get_modify, running_live]
    split <;> simp_all
  · show (((running.outlets.set 5 .initial).set 6 _).get o).cause = .shed ↔ o = 6
    rw [Table.get_set, Table.get_set, running_outlets]
    repeat' split
    all_goals simp_all [Outlet.initial]
    all_goals omega

/-- The readings of `finishedSweep` confirm tenant 0's restore of outlet 6 and time P1's entry out. -/
theorem witness_EntryTimesOutAtThirdSweep_accounting :
    restoring.sweep = some finishedSweep ∧ finishedSweep.finished = true ∧ restoring.closer.close = .idle
      ∧ restoring.stacksSound
      ∧ (restoring.stepConfirmed finishedSweep 0).map (·.outlet) = some 6
      ∧ (restoring.queue.filter (restoring.timedOut finishedSweep)).map (·.outlet) = [7] :=
  ⟨rfl, rfl, rfl, restoring_stacks, by decide +kernel, by decide +kernel⟩

/-- The readings of one accounting (R87, R104): the restore is confirmed, the stack is empty and its tenant CLEAR; the other
entry times out. -/
theorem test_capture_confirms_and_times_out :
    let t := restoring.applyCapture finishedSweep
    t.queue = [] ∧ (t.live.get 0).stack = [] ∧ (t.live.get 0).curtailment = .clear
      ∧ (t.outlets.get 6).cause = .none ∧ (t.outlets.get 7).fault = true
      ∧ (t.accruals.get 0).restoreSteps = 1 := by decide +kernel

theorem witness_AccountingSetsDemandZoneCredit :
    swept.sweep = some finishedSweep ∧ finishedSweep.finished = true ∧ swept.closer.close = .idle
      ∧ (swept.contract 0).active = true := ⟨rfl, rfl, rfl, by decide⟩

theorem witness_EntryTimesOutAtThirdSweep :
    let e : Entry :=
      { outlet := 5, action := .closing, origin := .tenant 0, state := .issued 2 4, stale := .clear, offered := false }
    let s : State := { swept with queue := [e] }
    (s.queue.map (·.outlet)).Nodup ∧ e ∈ s.queue ∧ s.used (moduleOfOutlet e.outlet) = true
      ∧ finishedSweep.lastPoll.get (moduleOfOutlet e.outlet) = some 5 ∧ 4 < 5
      ∧ (∀ a, finishedSweep.capture.get (moduleOfOutlet e.outlet) = some a →
        (a.blocks.get (channelOfOutlet e.outlet)).valid = false) := by
  refine ⟨by decide, by decide, by decide, by decide, by decide, ?_⟩
  rintro a ⟨⟩
  decide +kernel

/-- A ring of `n` filled slots and no available record. -/
def filled (n : Nat) : Ring :=
  { slots := (List.range n).map fun k => (k, List.replicate 64 0), records := [], building := none, writePos := n }

/-- `swept` one sweep short of its close target, with `n` slots filled. -/
def closing (n : Nat) : State := { swept with closer := { swept.closer with counted := 5 }, ring := filled n }

theorem closing_free (n : Nat) : (closing n).ring.free + (closing n).releasable = 2048 - n := by
  simp [closing, filled, Ring.free, State.releasable, ringSize]

theorem running_active : running.activeCount = 1 := by decide

theorem witness_ScheduledCloseStartsOrExtends :
    (closing 2045).closer.counted + 1 = (closing 2045).closer.target
      ∧ 2 + (closing 2045).activeCount ≤ (closing 2045).ring.free + (closing 2045).releasable
      ∧ (closing 2046).ring.free + (closing 2046).releasable < 2 + (closing 2046).activeCount := by
  have h : ∀ n, (closing n).activeCount = 1 := fun _ => running_active
  exact ⟨rfl, by rw [closing_free, h], by rw [closing_free, h]; decide⟩

/-- `running` with a close in flight at step `k` that took `set`. -/
def closingAt (k : CloseStep) (set : Option Configuration) : State :=
  { running with
    closer := { running.closer with
      close := .closing { step := k, early := false, closeSecond := 100, taken := set } } }

theorem witness_CloseBuildWritesRecordSlots :
    (closingAt .build none).closer.close
      = .closing { step := .build, early := false, closeSecond := 100, taken := none } := rfl

theorem witness_RecordSlotsCarryTheirFields :
    running.closer.counted < 2 ^ 32 ∧ running.closer.extensions ≤ 255 ∧ (running.contract 0).inRange
      ∧ (running.accruals.get 0).inRange ∧ (running.live.get 0).credit < 2 ^ 32 :=
  ⟨by decide, by decide, config_inRange.1 0, running_accruals.2.2.2.1 0, by decide⟩

/-- A set that vacates tenant 0 and makes tenant 1 ACTIVE, removes module 0 and adds module 1. -/
def swapped : Configuration :=
  { config with
    contracts := (Table.fill 64 Contract.empty).set 1 contract0
    lists := .fill 64 []
    windows := (Table.fill 96 none).set 0 (some { first := 24, last := 47, tenant := 1 })
    modules := (Table.fill 16 { used := false, feed := .a }).set 1 { used := true, feed := .b } }

theorem witness_CloseApplyInstallsTakenSet :
    (closingAt .apply (some swapped)).closer.close
        = .closing { step := .apply, early := false, closeSecond := 100, taken := some swapped }
      ∧ (running.contract 1).active = false ∧ (swapped.contracts.get 1).active = true
      ∧ (running.contract 0).active = true ∧ (swapped.contracts.get 0).active = false
      ∧ (config.contracts.get 0).active = true := ⟨rfl, by decide, by decide, by decide, by decide, by decide⟩

theorem witness_CloseApplyTreatsModulesByCase :
    running.used 0 = true ∧ (swapped.modules.get 0).used = false ∧ running.used 1 = false
      ∧ (swapped.modules.get 1).used = true ∧ running.used 2 = (swapped.modules.get 2).used := by decide

/-- A continuing tenant whose stacked outlet the set takes off its list (R94): the stack empties, the tenant is CLEAR. -/
theorem witness_CloseApplyInstallsTakenSet_delisted :
    let set := { config with lists := .fill 64 [] }
    let t := after .closeApply (closingAt .apply (some set))
    (running.contract 0).active = true ∧ (set.contracts.get 0).active = true ∧ 5 ∈ (running.live.get 0).stack
      ∧ 5 ∉ set.lists.get 0 ∧ (set.modules.get (moduleOfOutlet 5)).used = true
      ∧ (t.live.get 0).stack = [] ∧ (t.live.get 0).curtailment = .clear ∧ (t.live.get 0).inFlight = none
      ∧ (t.outlets.get 5).cause = .admin := by decide +kernel

/-- A tenant vacated with its module kept (R15, R107): its stacked outlet becomes ADMIN, its PENDING entry leaves, the port's
entry and every other outlet stay as they were. -/
theorem witness_CloseApplyInstallsTakenSet_vacated :
    let set := { config with contracts := .fill 64 .empty, lists := .fill 64 [], windows := .fill 96 none }
    let t := after .closeApply (closingAt .apply (some set))
    (running.contract 0).active = true ∧ (set.contracts.get 0).active = false ∧ 5 ∈ (running.live.get 0).stack
      ∧ (set.modules.get (moduleOfOutlet 5)).used = true ∧ t.live.get 0 = .vacant
      ∧ (t.outlets.get 5).cause = .admin ∧ t.outlets.get 6 = running.outlets.get 6
      ∧ t.queue = running.queue.drop 1 := by decide +kernel

/-- An ISSUED entry of a tenant whose list no longer names its outlet stays in the queue through the application. -/
theorem witness_CloseApplyTreatsModulesByCase_stale :
    let e : Entry :=
      { outlet := 5, action := .closing, origin := .tenant 0, state := .issued 0 4, stale := .clear, offered := false }
    let set := { config with lists := .fill 64 [] }
    let t := after .closeApply { closingAt .apply (some set) with queue := [e] }
    t.queue = [{ e with stale := .delisted }] ∧ e.outlet ∉ set.lists.get 0 := by decide +kernel

theorem witness_CloseResetZeroesAccumulators :
    (closingAt .resetAccumulators none).closer.close
        = .closing { step := .resetAccumulators, early := false, closeSecond := 100, taken := none }
      ∧ (∀ c, running.closer.close = .closing c → c.step ≠ .build) := ⟨rfl, by rintro c ⟨⟩⟩

theorem witness_CloseCompleteOpensInterval :
    (closingAt .complete none).closer.close
      = .closing { step := .complete, early := false, closeSecond := 100, taken := none } := rfl

/-- `swept`'s sweep waits for the completion of the close, a late sweep behind it. -/
def closingSwept : State := { closingAt .complete none with sweep := some finishedSweep, late := true }

theorem witness_CloseCompleteOpensInterval_waiting :
    closingSwept.closer.close = .closing { step := .complete, early := false, closeSecond := 100, taken := none }
      ∧ closingSwept.sweep = some finishedSweep ∧ finishedSweep.finished = true ∧ closingSwept.used 0 = true :=
  ⟨rfl, rfl, rfl, by decide⟩

/-- CLOSE_COMPLETE accounts the waiting sweep as the first of interval 3 (R125), and with no module used the late sweep
behind it, which has no polls, as the second (R20). -/
theorem test_close_complete_accounts_waiting_sweep :
    let t := after .closeComplete { closingSwept with committed := State.reset.committed }
    t.closer.sequence = 3 ∧ t.closer.counted = 2 ∧ t.closer.close = .idle ∧ t.late = false ∧ t.sweep = none := by
  decide +kernel

theorem witness_PoolHoldsEveryList : running.committed = config.committed := rfl

/-! #### Frames and reads -/

theorem witness_SelectFallSamplesStatus :
    (Instr.stageShedList 0 .selectFalls 0 1 [5]).wf = true
      ∧ (Instr.stageShedList 0 .selectFalls 0 1 [5]).port? = some 0
      ∧ (Instr.stageShedList 0 .selectFalls 0 1 [5]).atFall = true ∧ running.role 0 ≠ .disabled := by decide

/-- `running` with P3 DISABLED. -/
def threePorts : State := { running with ports := running.ports.set 3 .reset }

theorem witness_DisabledPortIgnoresFrames :
    ∃ t, (Instr.identify 3 .selectRises).port? = some 3 ∧ threePorts.role 3 = .disabled ∧ threePorts.portsSound
      ∧ Instr.duePoint ≠ .partReset ∧ (∀ r1 r0, Instr.duePoint ≠ .resetRelease r1 r0)
      ∧ exec .duePoint threePorts = .next t :=
  ⟨_, rfl, by decide, ⟨by decide, by decide, by rintro p n c ⟨⟩⟩, by decide, by decide, rfl⟩

theorem witness_DiscardedUnknownAndEmptyFrames :
    running.role 3 ≠ .disabled ∧ (16 : Byte).toNat ≤ 16
      ∧ (List.replicate 15 (5 : BitVec 16)).length < (16 : Byte).toNat ∧ (0x53 : Byte) ∉ requestCodes := by decide

theorem witness_FrameBytesDecodeToTheirRequest :
    let i := Instr.stageShedList 0 .selectRises 21 2 [40, 300]
    i.wf = true ∧ encodeFrame i = some [0x47, 21, 2, 0, 40, 1, 44] ∧ 6 < [0x47, 21, 2, 0, 40, 1, 44].length := by decide

theorem witness_RoleGateRefusesRequests :
    running.role 2 ≠ .disabled ∧ running.role 2 ≠ .facility ∧ running.role 3 = .viewer
      ∧ (Instr.stageShedList 2 .selectRises 0 1 [5]).wf = true
      ∧ Instr.endInterval 2 .selectRises ∈ [Instr.openAmendment 2 .selectRises, .takeoverAmendment 2 .selectRises,
        .recallSealed 2 .selectRises, .discardAmendment 2 .selectRises, .endInterval 2 .selectRises] := by decide

theorem witness_ReadKeepsItsSnapshot :
    (closingAt .build none).role 3 ≠ .disabled ∧ ((closingAt .build none).ports.get 3).frame = none
      ∧ (closingAt .build none).closing = true ∧ running.closing = false := by decide

/-- INTERVAL_CLOSED raised after the snapshot leaves the port's role, frame and response as they were. -/
theorem witness_ReadKeepsItsSnapshot_meanwhile :
    let t := after (.readTenant 3 .snapshot 0) running
    let u := t.notify .intervalClosed fun _ => true
    u.role 3 = running.role 3 ∧ (u.ports.get 3).frame = (t.ports.get 3).frame
      ∧ (u.ports.get 3).reply = (t.ports.get 3).reply ∧ u.ports ≠ t.ports := by decide +kernel

theorem witness_StateAndTenantReads :
    running.role 3 ≠ .disabled ∧ running.latch? 3 = none ∧ running.closing = false
      ∧ (closingAt .apply none).closing = true ∧ (63 : Byte).toNat = (63 : TenantId).val ∧ (64 : Byte).toNat = 64
      ∧ 64 < (65 : Byte).toNat := by decide

theorem witness_OutletModuleAndConfigReads :
    running.role 3 ≠ .disabled ∧ running.latch? 3 = none ∧ (383 : BitVec 16).toNat = (383 : OutletId).val
      ∧ 383 < (384 : BitVec 16).toNat ∧ (15 : Byte).toNat = (15 : ModuleId).val ∧ 15 < (16 : Byte).toNat
      ∧ 1 < (2 : Byte).toNat := by decide

theorem witness_OutletModuleAndConfigReads_staged :
    claimed.claim = .opened 0 29 config ∧ { running with claim := .sealed config }.claim = .sealed config
      ∧ { running with claim := .sealed config }.role 1 = .facility ∧ (∀ n c, claimed.claim ≠ .opened 1 n c)
      ∧ ∀ c, claimed.claim ≠ .sealed c := by
  refine ⟨rfl, rfl, by decide, ?_, by rintro c ⟨⟩⟩
  intro n c h
  cases h

theorem witness_NoticeRequestsAndResetPortChangeOwnPort :
    running.role 3 ≠ .disabled ∧ claimed.role 0 ≠ .disabled ∧ claimed.claim = .opened 0 29 config :=
  ⟨by decide, by decide, rfl⟩

/-! #### Delivery -/

theorem witness_SubscribeStartsAtOldestRecord :
    running.role 2 ≠ .disabled ∧ running.role 2 ≠ .viewer ∧ 2 < (3 : Byte).toNat := by decide

theorem witness_AckAndSeekMoveDelivery :
    retained.role 2 ≠ .disabled ∧ retained.role 2 ≠ .viewer ∧ (retained.ports.get 2).delivery = .retain 1 0 0
      ∧ later 0 0 = false ∧ later 1 0 = true ∧ ∃ r ∈ retained.ring.records, r.sequence = 1 := by decide +kernel

theorem witness_StreamFollowsCursorSlotBySlot :
    retained.role 2 ≠ .disabled ∧ (retained.ports.get 2).frame = none
      ∧ (retained.ports.get 2).delivery.cursor? = some 1
      ∧ retained.ring.find? 1 = some { sequence := 1, start := 0, length := 3 }
      ∧ readSlot retained.ring.slots (0 % 2048) = some (List.replicate 64 1)
      ∧ (running.ports.get 2).delivery = .unsubscribed ∧ retained.ring.find? 2 = none := by decide +kernel

/-- `retained` with a second record of two slots, and P2's READ_RECORDS frame at slot `k` of record `q`. -/
def streaming (q : Word) (start length k : Nat) : State :=
  { retained with
    ring :=
      { slots := [(0, List.replicate 64 1), (1, List.replicate 64 2), (2, List.replicate 64 2),
          (3, List.replicate 64 1), (4, List.replicate 64 2)]
        records := [{ sequence := 1, start := 0, length := 3 }, { sequence := 2, start := 3, length := 2 }]
        building := none, writePos := 5 }
    ports := retained.ports.modify 2 fun x =>
      { x with
        frame := some
          { latch := some { code := 0x31, args := [], result := .ok, reply := [] }
            stream := some
              { ended := false, current := some ({ sequence := q, start := start, length := length }, k)
                lastWhole := none } } } }

theorem witness_StreamFollowsCursorSlotBySlot_next :
    let r : Rec := { sequence := 1, start := 0, length := 3 }
    r ∈ (streaming 1 0 3 1).ring.records ∧ 1 + 1 < r.length
      ∧ readSlot (streaming 1 0 3 1).ring.slots ((r.start + (1 + 1)) % 2048) = some (List.replicate 64 2)
      ∧ 2 + 1 = r.length
      ∧ (streaming 1 0 3 2).ring.find? (r.sequence + 1) = some { sequence := 2, start := 3, length := 2 }
      ∧ readSlot (streaming 1 0 3 2).ring.slots (3 % 2048) = some (List.replicate 64 1) := by decide +kernel

theorem witness_StreamFollowsCursorSlotBySlot_end :
    let r : Rec := { sequence := 2, start := 3, length := 2 }
    let gone : Rec := { sequence := 0, start := 2045, length := 3 }
    r ∈ (streaming 2 3 2 1).ring.records ∧ 1 + 1 = r.length
      ∧ (streaming 2 3 2 1).ring.find? (r.sequence + 1) = none ∧ gone ∉ (streaming 0 2045 3 0).ring.records := by
  decide +kernel

theorem witness_ReadRecordsTakesWholeRecords :
    (retained.ports.get 2).frame = none
      ∧ ∃ f d, ((streaming 1 0 3 2).ports.get 2).frame = some f
        ∧ f.latch = some { code := 0x31, args := [], result := .ok, reply := [] } ∧ f.stream = some d
        ∧ d.slotWhole.lastWhole = some 1 := ⟨by decide, _, _, rfl, rfl, rfl, by decide⟩

/-! #### Amendments and curtailment -/

theorem witness_OpenAndTakeoverTakeClaim :
    running.role 1 = .facility ∧ claimed.role 1 = .facility ∧ claimed.claim = .opened 0 29 config :=
  ⟨by decide, by decide, rfl⟩

theorem witness_RecallAndDiscardDropTheSet :
    (closingAt .build (some config)).role 1 = .facility
      ∧ { closingAt .build (some config) with claim := .sealed config }.claim = .sealed config := ⟨by decide, rfl⟩

theorem witness_SealRefusalsInOrder :
    running.role 0 = .facility ∧ (∀ q n c, running.claim ≠ .opened q n c) ∧ claimed.claim = .opened 0 29 config
      ∧ (1 : Port) ≠ 0 ∧ 1 < (2 : Byte).toNat ∧ (1 : Byte).toNat ≤ 1 := by
  refine ⟨by decide, by rintro q n c ⟨⟩, rfl, by decide, by decide, by decide⟩

theorem witness_SealRefusalsInOrder_invalid :
    { config with timing := { config.timing with period := 7 } }.validate = some { check := 1, item := 0 } := by
  decide +kernel

theorem witness_ValidSealInRunningPart :
    claimed.role 0 = .facility ∧ claimed.claim = .opened 0 29 config ∧ config.validate = none
      ∧ claimed.run = .running ∧ (1 : Byte).toNat ≤ 1 ∧ claimed.closer.close = .idle
      ∧ 2 + claimed.activeCount ≤ claimed.ring.free + claimed.releasable ∧ claimed.role 1 = .facility :=
  ⟨by decide, rfl, config_valid, rfl, by decide, rfl, by decide +kernel, by decide⟩

/-- `claimed` with `n` slots filled and no available record. -/
def claimedFull (n : Nat) : State := { claimed with ring := filled n }

theorem claimedFull_free (n : Nat) : (claimedFull n).ring.free + (claimedFull n).releasable = 2048 - n := by
  simp [claimedFull, filled, Ring.free, State.releasable, ringSize]

theorem witness_ValidSealInRunningPart_full :
    (claimedFull 2046).closer.close = .idle
      ∧ (claimedFull 2046).ring.free + (claimedFull 2046).releasable < 2 + (claimedFull 2046).activeCount := by
  have h : ∀ n, (claimedFull n).activeCount = 1 := fun _ => running_active
  exact ⟨rfl, by rw [claimedFull_free, h]; decide⟩

theorem witness_FirstSealAppliesAtOnce :
    freshClaimed.role 0 = .facility ∧ freshClaimed.claim = .opened 0 3 config ∧ config.validate = none
      ∧ freshClaimed.run = .unconfigured ∧ freshClaimed.unconfiguredSound ∧ (0 : Byte).toNat ≤ 1 :=
  ⟨by decide, rfl, config_valid, rfl, freshClaimed_unconfigured, by decide⟩

/-- Every staging request at a boundary of its ranges writes. -/
theorem witness_StagingWritesShadowWithinRanges :
    claimed.role 0 = .facility ∧ (16 : Byte).toNat ≤ (List.replicate 16 (383 : BitVec 16)).length
      ∧ (stageTenantWrite 63 1 4000000 1 4000000000 4000000000 6 255 2 2 config).isSome = true
      ∧ (stageTenantWrite 63 1 4000001 1 4000000000 4000000000 6 255 2 2 config) = none
      ∧ (stageWindowWrite 95 1 383 383 63 config).isSome = true ∧ stageWindowWrite 95 1 383 382 63 config = none
      ∧ (stageShedListWrite 63 16 (List.replicate 16 383) config).isSome = true
      ∧ stageShedListWrite 63 17 [] config = none
      ∧ (stageModuleWrite 15 1 1 config).isSome = true ∧ stageModuleWrite 16 1 1 config = none
      ∧ (stageTimingWrite 10 3600 255 config).isSome = true ∧ stageTimingWrite 10 3601 255 config = none := by
  decide +kernel

/-- Checks 1 to 5 are each the first to fail of some set, at the item R149 names. Check 6 is the first of none: past
check 5 the lists name each of the 384 outlets at most once. -/
theorem witness_ValidationChecksInOrder :
    config.validate = none
      ∧ { config with timing := { config.timing with period := 7 } }.validate = some { check := 1, item := 0 }
      ∧ { config with contracts := config.contracts.set 14 { contract0 with restore := 1200001 } }.validate
        = some { check := 2, item := 14 }
      ∧ { config with windows := config.windows.set 95 (some { first := 23, last := 24, tenant := 0 }) }.validate
        = some { check := 3, item := 95 }
      ∧ { config with contracts := config.contracts.set 0 { contract0 with cls := .singleB } }.validate
        = some { check := 4, item := 0 }
      ∧ { config with lists := config.lists.set 63 [24] }.validate = some { check := 5, item := 63 } := by decide +kernel

theorem witness_SetOutletByCases :
    running.role 0 = .facility ∧ running.closer.close = .idle ∧ 383 < (384 : BitVec 16).toNat ∧ 1 < (2 : Byte).toNat
      ∧ (383 : BitVec 16).toNat = (383 : OutletId).val ∧ (1 : Byte).toNat ≤ 1
      ∧ (closingAt .apply none).closer.close ≠ .idle := by decide

theorem witness_RestoreTenantAndEndInterval :
    running.role 0 = .facility ∧ running.closer.close = .idle ∧ 63 < (64 : Byte).toNat
      ∧ (63 : Byte).toNat = (63 : TenantId).val ∧ (closingAt .apply none).closer.close ≠ .idle
      ∧ fresh.run = .unconfigured ∧ running.run = .running
      ∧ 2 + running.activeCount ≤ running.ring.free + running.releasable := by decide +kernel

/-- A drop for room of 3 slots, with 2 free: record 1 goes, and a FOLLOW cursor on it moves to the record being written. -/
theorem witness_RestoreTenantAndEndInterval_drop :
    let r : Rec := { sequence := 1, start := 0, length := 3 }
    dropFor (fun _ => false) 3 2 [r] = ([r], []) ∧ (Delivery.follow 1 0).cursor? = some 1
      ∧ (Delivery.follow 1 0).withCursor 2 = .follow 2 0 ∧ [r].countP (fun x => !later 1 x.sequence) = 1 := by decide

theorem witness_RestoreTenantAndEndInterval_full :
    (closing 2046).ring.free + (closing 2046).releasable < 2 + (closing 2046).activeCount :=
  witness_ScheduledCloseStartsOrExtends.2.2

end Sys2Proof.Tests
end

section
/-!
SUPPORT. The staging requests: where each operand decoder answers and what (Table 1-1, Table 9-2, Table 11-4, R168), where
each write into the shadow is made (R2, R40, R73, R146), what a staging request on a facility port leaves (R143, R146), and
the statement that they settle.
-/

namespace Sys2Proof.Machine

/-! ### Operand decoders -/

@[simp] theorem indexOf?_eq_some_iff {n k : Nat} {i : Fin n} : indexOf? n k = some i ↔ i.val = k := by
  unfold indexOf?
  split
  · simp [Fin.ext_iff, eq_comm]
  · have hi := i.isLt
    simp only [reduceCtorEq, false_iff]
    omega

@[simp] theorem tenantOf?_eq_some_iff {b : Byte} {i : TenantId} : tenantOf? b = some i ↔ i.val = b.toNat :=
  indexOf?_eq_some_iff

@[simp] theorem outletOf?_eq_some_iff {w : BitVec 16} {o : OutletId} : outletOf? w = some o ↔ o.val = w.toNat :=
  indexOf?_eq_some_iff

@[simp] theorem moduleOf?_eq_some_iff {b : Byte} {m : ModuleId} : moduleOf? b = some m ↔ m.val = b.toNat :=
  indexOf?_eq_some_iff

@[simp] theorem slotOf?_eq_some_iff {b : Byte} {n : WindowSlot} : slotOf? b = some n ↔ n.val = b.toNat :=
  indexOf?_eq_some_iff

/-- A byte read as a flag by its two values 0 and 1 (Table 11-4). -/
theorem flag_eq_some_iff {b : Byte} {a : Bool} :
    (if b = 0 then some false else if b = 1 then some true else none) = some a ↔ (if a then 1 else 0) = b.toNat := by
  constructor
  · intro h
    split_ifs at h with h0 h1 <;> cases h
    · simp [h0]
    · simp [h1]
  · intro h
    cases a with
    | false =>
      have hb : b = 0 := BitVec.eq_of_toNat_eq h.symm
      simp [hb]
    | true =>
      have hb : b = 1 := BitVec.eq_of_toNat_eq h.symm
      simp [hb]

@[simp] theorem tenantStateOf?_eq_some_iff {b : Byte} {a : Bool} :
    tenantStateOf? b = some a ↔ (if a then 1 else 0) = b.toNat :=
  flag_eq_some_iff

@[simp] theorem usedOf?_eq_some_iff {b : Byte} {u : Bool} : usedOf? b = some u ↔ (if u then 1 else 0) = b.toNat :=
  flag_eq_some_iff

@[simp] theorem policyOf?_eq_some_iff {b : Byte} {y : Policy} : policyOf? b = some y ↔ y.code = b := by
  unfold policyOf?
  constructor
  · intro h
    split_ifs at h <;> cases h <;> exact Eq.symm ‹_›
  · rintro rfl
    cases y <;> rfl

@[simp] theorem classOf?_eq_some_iff {b : Byte} {x : TenantClass} : classOf? b = some x ↔ x.code = b := by
  unfold classOf?
  constructor
  · intro h
    split_ifs at h <;> cases h <;> exact Eq.symm ‹_›
  · rintro rfl
    cases x <;> rfl

@[simp] theorem feedOf?_eq_some_iff {b : Byte} {f : Feed} : feedOf? b = some f ↔ f.code = b := by
  unfold feedOf?
  constructor
  · intro h
    split_ifs at h <;> cases h <;> exact Eq.symm ‹_›
  · rintro rfl
    cases f <;> rfl

@[simp] theorem inRange?_eq_some_iff {lo hi k x : Nat} : inRange? lo hi k = some x ↔ (lo ≤ k ∧ k ≤ hi) ∧ k = x := by
  simp [inRange?]

/-! ### Records of several operands -/

theorem contractOf?_eq_some_iff {a : Byte} {k l q r : Word} {h d y x : Byte} {g : Contract} :
    contractOf? a k l q r h d y x = some g ↔
      g.inRange ∧ (if g.active then 1 else 0) = a.toNat ∧ g.committed = k.toNat ∧ g.ceiling = l.toNat
        ∧ g.qmax = q.toNat ∧ g.restore = r.toNat ∧ g.shift = h.toNat ∧ g.dwell = d.toNat
        ∧ g.policy.code = y ∧ g.cls.code = x := by
  simp only [contractOf?, Option.bind_eq_bind, Option.bind_eq_some_iff, tenantStateOf?_eq_some_iff,
    inRange?_eq_some_iff, policyOf?_eq_some_iff, classOf?_eq_some_iff, Option.pure_def, Option.some.injEq,
    Contract.inRange]
  constructor
  · rintro ⟨a, ha, _, ⟨hk, rfl⟩, _, ⟨hl, rfl⟩, _, ⟨hq, rfl⟩, _, ⟨hr, rfl⟩, _, ⟨hh, rfl⟩, _, ⟨hd, rfl⟩, y, hy, x, hx, rfl⟩
    exact ⟨⟨hk, hl, hq.2, hr.2, hh.2, hd⟩, ha, rfl, rfl, rfl, rfl, rfl, rfl, hy, hx⟩
  · obtain ⟨a, k, l, q, r, h, d, y, x⟩ := g
    rintro ⟨⟨hk, hl, hq, hr, hh, hd⟩, ha, rfl, rfl, rfl, rfl, rfl, rfl, hy, hx⟩
    exact ⟨a, ha, _, ⟨hk, rfl⟩, _, ⟨hl, rfl⟩, _, ⟨⟨Nat.zero_le _, hq⟩, rfl⟩, _, ⟨⟨Nat.zero_le _, hr⟩, rfl⟩,
      _, ⟨⟨Nat.zero_le _, hh⟩, rfl⟩, _, ⟨hd, rfl⟩, y, hy, x, hx, rfl⟩

/-- A CLEAR names no window and a SET its window, first no later than last (R40). -/
theorem windowOf?_eq_some_iff {o : Byte} {f l : BitVec 16} {i : Byte} {w : Option Window} :
    windowOf? o f l i = some w ↔
      (o = 0 ∧ w = none)
        ∨ (o = 1 ∧ f.toNat ≤ l.toNat ∧ ∃ v : Window, v.first.val = f.toNat ∧ v.last.val = l.toNat
            ∧ v.tenant.val = i.toNat ∧ w = some v) := by
  unfold windowOf?
  split
  case isTrue h0 =>
    subst h0
    simp [eq_comm]
  case isFalse h0 =>
    rw [or_iff_right (fun h => h0 h.1)]
    split
    case isFalse h1 => simp only [h1, false_and, reduceCtorEq]
    case isTrue h1 =>
      simp only [Option.bind_eq_bind, Option.bind_eq_some_iff, outletOf?_eq_some_iff, tenantOf?_eq_some_iff, h1,
        true_and]
      constructor
      · rintro ⟨a, ha, b, hb, t, ht, h⟩
        split at h
        case isTrue hab => exact ⟨ha ▸ hb ▸ hab, ⟨a, b, t⟩, ha, hb, ht, (Option.some.inj h).symm⟩
        case isFalse => cases h
      · rintro ⟨hfl, ⟨a, b, t⟩, ha, hb, ht, rfl⟩
        have hab : a ≤ b := Fin.le_def.2 (by rwa [ha, hb])
        exact ⟨a, ha, b, hb, t, ht, if_pos hab⟩

/-- Outlet numbers decode to the outlets of those numbers, in order (R73). -/
theorem outletsOf?_eq_some_iff {ws : List (BitVec 16)} {ls : List OutletId} :
    outletsOf? ws = some ls ↔ ls.map (·.val) = ws.map (·.toNat) := by
  induction ws generalizing ls with
  | nil => simp [outletsOf?]
  | cons w ws ih =>
    simp only [outletsOf?, Option.bind_eq_bind, Option.bind_eq_some_iff, outletOf?_eq_some_iff, ih, Option.pure_def,
      Option.some.injEq, List.map_cons, List.map_eq_cons_iff]
    constructor
    · rintro ⟨o, ho, os, hos, rfl⟩
      exact ⟨o, os, rfl, ho, hos⟩
    · rintro ⟨o, os, rfl, ho, hos⟩
      exact ⟨o, ho, os, hos, rfl⟩

theorem timingOf?_eq_some_iff {t : Byte} {l : BitVec 16} {k : Byte} {g : Timing} :
    timingOf? t l k = some g ↔
      g.inRange ∧ g.period = t.toNat ∧ g.length = l.toNat ∧ g.timeout = k.toNat := by
  simp only [timingOf?, Option.bind_eq_bind, Option.bind_eq_some_iff, inRange?_eq_some_iff, Option.pure_def,
    Option.some.injEq, Timing.inRange]
  constructor
  · rintro ⟨_, ⟨ht, rfl⟩, _, ⟨hl, rfl⟩, _, ⟨hk, rfl⟩, rfl⟩
    exact ⟨⟨ht, hl, hk⟩, rfl, rfl, rfl⟩
  · obtain ⟨t, l, k⟩ := g
    rintro ⟨⟨ht, hl, hk⟩, rfl, rfl, rfl⟩
    exact ⟨_, ⟨ht, rfl⟩, _, ⟨hl, rfl⟩, _, ⟨hk, rfl⟩, rfl⟩

/-! ### Writes into the shadow -/

variable {c c' : Configuration}

theorem stageTenantWrite_eq_some_iff {i a : Byte} {k l q r : Word} {h d y x : Byte} :
    stageTenantWrite i a k l q r h d y x c = some c' ↔
      ∃ (t : TenantId) (g : Contract), t.val = i.toNat ∧ g.inRange
        ∧ c' = { c with contracts := c.contracts.set t g }
        ∧ (if g.active then 1 else 0) = a.toNat ∧ g.committed = k.toNat ∧ g.ceiling = l.toNat
        ∧ g.qmax = q.toNat ∧ g.restore = r.toNat ∧ g.shift = h.toNat ∧ g.dwell = d.toNat
        ∧ g.policy.code = y ∧ g.cls.code = x := by
  simp only [stageTenantWrite, Option.bind_eq_bind, Option.bind_eq_some_iff, tenantOf?_eq_some_iff,
    contractOf?_eq_some_iff, Option.pure_def, Option.some.injEq]
  constructor
  · rintro ⟨t, ht, g, ⟨hg, hfields⟩, hc⟩
    exact ⟨t, g, ht, hg, hc.symm, hfields⟩
  · rintro ⟨t, g, ht, hg, hc, hfields⟩
    exact ⟨t, ht, g, ⟨hg, hfields⟩, hc.symm⟩

theorem stageWindowWrite_eq_some_iff {n o : Byte} {f l : BitVec 16} {i : Byte} :
    stageWindowWrite n o f l i c = some c' ↔
      ∃ w : WindowSlot, w.val = n.toNat
        ∧ ((o = 0 ∧ c' = { c with windows := c.windows.set w none })
          ∨ (o = 1 ∧ f.toNat ≤ l.toNat ∧ ∃ v : Window, v.first.val = f.toNat ∧ v.last.val = l.toNat
              ∧ v.tenant.val = i.toNat ∧ c' = { c with windows := c.windows.set w (some v) })) := by
  simp only [stageWindowWrite, Option.bind_eq_bind, Option.bind_eq_some_iff, slotOf?_eq_some_iff,
    windowOf?_eq_some_iff, Option.pure_def, Option.some.injEq]
  refine exists_congr fun w => and_congr_right fun _ => ?_
  constructor
  · rintro ⟨_, ⟨ho, rfl⟩ | ⟨ho, hfl, v, hf, hl, ht, rfl⟩, rfl⟩
    · exact .inl ⟨ho, rfl⟩
    · exact .inr ⟨ho, hfl, v, hf, hl, ht, rfl⟩
  · rintro (⟨ho, rfl⟩ | ⟨ho, hfl, v, hf, hl, ht, rfl⟩)
    · exact ⟨none, .inl ⟨ho, rfl⟩, rfl⟩
    · exact ⟨some v, .inr ⟨ho, hfl, v, hf, hl, ht, rfl⟩, rfl⟩

theorem stageShedListWrite_eq_some_iff {i n : Byte} {os : List (BitVec 16)} :
    stageShedListWrite i n os c = some c' ↔
      n.toNat ≤ 16 ∧ ∃ (t : TenantId) (ls : List OutletId), t.val = i.toNat
        ∧ ls.map (·.val) = (os.take n.toNat).map (·.toNat) ∧ c' = { c with lists := c.lists.set t ls } := by
  simp only [stageShedListWrite, Option.bind_eq_bind, Option.bind_eq_some_iff, tenantOf?_eq_some_iff,
    inRange?_eq_some_iff, outletsOf?_eq_some_iff, Option.pure_def, Option.some.injEq]
  constructor
  · rintro ⟨t, ht, _, ⟨hn, rfl⟩, ls, hls, hc⟩
    exact ⟨hn.2, t, ls, ht, hls, hc.symm⟩
  · rintro ⟨hn, t, ls, ht, hls, hc⟩
    exact ⟨t, ht, _, ⟨⟨Nat.zero_le _, hn⟩, rfl⟩, ls, hls, hc.symm⟩

theorem stageModuleWrite_eq_some_iff {m u f : Byte} :
    stageModuleWrite m u f c = some c' ↔
      ∃ (k : ModuleId) (g : ModuleConfig), k.val = m.toNat ∧ (if g.used then 1 else 0) = u.toNat ∧ g.feed.code = f
        ∧ c' = { c with modules := c.modules.set k g } := by
  simp only [stageModuleWrite, Option.bind_eq_bind, Option.bind_eq_some_iff, moduleOf?_eq_some_iff,
    usedOf?_eq_some_iff, feedOf?_eq_some_iff, Option.pure_def, Option.some.injEq]
  constructor
  · rintro ⟨k, hk, used, hu, feed, hf, hc⟩
    exact ⟨k, ⟨used, feed⟩, hk, hu, hf, hc.symm⟩
  · rintro ⟨k, ⟨used, feed⟩, hk, hu, hf, hc⟩
    exact ⟨k, hk, used, hu, feed, hf, hc.symm⟩

theorem stageTimingWrite_eq_some_iff {t : Byte} {l : BitVec 16} {k : Byte} :
    stageTimingWrite t l k c = some c' ↔
      ∃ g : Timing, g.inRange ∧ g.period = t.toNat ∧ g.length = l.toNat ∧ g.timeout = k.toNat
        ∧ c' = { c with timing := g } := by
  simp only [stageTimingWrite, Option.bind_eq_bind, Option.bind_eq_some_iff, timingOf?_eq_some_iff, Option.pure_def,
    Option.some.injEq, and_assoc, eq_comm (a := c')]

/-! ### The staging request -/

namespace State

variable {s : State} {p q : Port} {n : Nat} {write : Configuration → Option Configuration}

/-- The claimant's write, where its arguments are in range (R146). -/
theorem stage_of_written (hr : s.role p = .facility) (hs : s.claim = .opened p n c) (hw : write c = some c') :
    stage p write s = s.writeShadow p c' := by
  simp [stage, facilityOnly, asClaimant, hr, hs, hw]

theorem stage_of_outOfRange (hr : s.role p = .facility) (hs : s.claim = .opened p n c) (hw : write c = none) :
    stage p write s = (s, .range) := by
  simp [stage, facilityOnly, asClaimant, hr, hs, hw]

theorem stage_of_otherClaimant (hr : s.role p = .facility) (hs : s.claim = .opened q n c) (hq : q ≠ p) :
    stage p write s = (s, .notClaimant) := by
  simp [stage, facilityOnly, asClaimant, hr, hs, hq]

theorem stage_of_notOpen (hr : s.role p = .facility) (hs : ∀ q n c, s.claim ≠ .opened q n c) :
    stage p write s = (s, .noneOpen) := by
  cases hc : s.claim with
  | opened q n c => exact absurd hc (hs q n c)
  | idle => simp [stage, facilityOnly, asClaimant, hr, hc]
  | sealed c => simp [stage, facilityOnly, asClaimant, hr, hc]

/-- The end of the frame whose request wrote the shadow: an OK answer with the claim's timer at 0 (R144, R146). -/
theorem endFrame_writeShadow (s : State) (p : Port) (c : Configuration) :
    ((s.ensureFrame p).writeShadow p c).1.endFrame p .ok = { s.answer p .ok id with claim := .opened p 0 c } := by
  have hrestart : (Claim.opened p 0 c).restart p = .opened p 0 c := by simp [Claim.restart]
  calc ((s.ensureFrame p).writeShadow p c).1.endFrame p .ok
      = { (s.ensureFrame p).endFrame p .ok with claim := (Claim.opened p 0 c).restart p } := rfl
    _ = { s.answer p .ok id with claim := .opened p 0 c } := by rw [hrestart, endFrame_ensureFrame]

/-- The state that a staging request of facility port `p` leaves, `write` being its write into the shadow. -/
def staged (s : State) (p : Port) (write : Configuration → Option Configuration) : State :=
  match s.claim with
  | .opened q _ c =>
    if q = p then
      match write c with
      | some c' => { s.answer p .ok id with claim := .opened p 0 c' }
      | none => s.refuse p .range
    else s.refuse p .notClaimant
  | _ => s.refuse p .noneOpen

/-- What a staging request of a facility port does at the rise of select (R143, R146). -/
theorem writeRequest_stage (hr : s.role p = .facility) (write : Configuration → Option Configuration) :
    s.writeRequest p .selectRises (stage p write) = s.staged p write := by
  have hr' : (s.ensureFrame p).role p = .facility := by rw [ensureFrame_role, hr]
  have hclaim : (s.ensureFrame p).claim = s.claim := ensureFrame_claim s p
  rw [writeRequest_rises s p (by simp [hr]), staged]
  cases hs : s.claim with
  | opened q n c =>
    rw [hs] at hclaim
    by_cases hq : q = p
    · subst hq
      cases hw : write c with
      | some c' =>
        simp only [stage_of_written hr' hclaim hw, hw, if_true]
        exact endFrame_writeShadow s q c'
      | none =>
        simp only [stage_of_outOfRange hr' hclaim hw, hw, if_true]
        exact endFrame_ensureFrame s q .range
    · simp only [stage_of_otherClaimant hr' hclaim hq, hq, if_false]
      exact endFrame_ensureFrame s p .notClaimant
  | idle | sealed =>
    rw [stage_of_notOpen hr' (by simp [hs])]
    exact endFrame_ensureFrame s p .noneOpen

/-! ### The five staging commands -/

theorem exec_stageTenant (hr : s.role p = .facility) (i a : Byte) (k l q r : Word) (h d y x : Byte) :
    exec (.stageTenant p .selectRises i a k l q r h d y x) s =
      .next (s.staged p (stageTenantWrite i a k l q r h d y x)) :=
  congrArg _ (writeRequest_stage hr _)

theorem exec_stageWindow (hr : s.role p = .facility) (n o : Byte) (f l : BitVec 16) (i : Byte) :
    exec (.stageWindow p .selectRises n o f l i) s = .next (s.staged p (stageWindowWrite n o f l i)) :=
  congrArg _ (writeRequest_stage hr _)

/-- A frame with all the outlets that its count promises is not discarded (R160, R168). -/
theorem exec_stageShedList (hr : s.role p = .facility) (i n : Byte) (os : List (BitVec 16))
    (hos : n.toNat ≤ 16 → n.toNat ≤ os.length) :
    exec (.stageShedList p .selectRises i n os) s = .next (s.staged p (stageShedListWrite i n os)) := by
  have hlong : listShort n os = false := by simpa [listShort] using hos
  change execStageShedList p .selectRises i n os s = _
  simp [execStageShedList, hlong, writeRequest_stage hr]

theorem exec_stageModule (hr : s.role p = .facility) (m u f : Byte) :
    exec (.stageModule p .selectRises m u f) s = .next (s.staged p (stageModuleWrite m u f)) :=
  congrArg _ (writeRequest_stage hr _)

theorem exec_stageTiming (hr : s.role p = .facility) (t : Byte) (l : BitVec 16) (k : Byte) :
    exec (.stageTiming p .selectRises t l k) s = .next (s.staged p (stageTimingWrite t l k)) :=
  congrArg _ (writeRequest_stage hr _)

end State

/-- Settles O57: the role gate and the claim check decide whether a write is tried, the operand decoders whether it is
made. -/
theorem stagingWritesShadowWithinRanges : Obligations.StagingWritesShadowWithinRanges :=
  ⟨fun _ _ hr =>
    ⟨State.exec_stageTenant hr, State.exec_stageWindow hr, State.exec_stageShedList hr, State.exec_stageModule hr,
      State.exec_stageTiming hr⟩,
   fun _ =>
    ⟨fun _ _ _ _ _ _ _ _ _ _ _ => stageTenantWrite_eq_some_iff, fun _ _ _ _ _ _ => stageWindowWrite_eq_some_iff,
      fun _ _ _ _ => stageShedListWrite_eq_some_iff, fun _ _ _ _ => stageModuleWrite_eq_some_iff,
      fun _ _ _ _ => stageTimingWrite_eq_some_iff⟩⟩

end Sys2Proof.Machine
end

section
/-!
SUPPORT. The smoothed demand: how far one sweep takes it, said once as a comparison free of division (R59), its bounds
(R60) and its dead band (R61) as cases of that comparison, its rest under a constant draw, and the statement that they
settle.
-/

namespace Sys2Proof.Machine

variable {k demand draw : Nat}

/-! ### The half term -/

@[simp] theorem halfTerm_zero : halfTerm 0 = 0 := rfl

theorem halfTerm_of_pos (hk : 1 ≤ k) : halfTerm k = 2 ^ (k - 1) := if_neg (by omega)

/-- The half term is half the divisor where there is one (Table 4-1). -/
theorem two_mul_halfTerm (hk : 1 ≤ k) : 2 * halfTerm k = 2 ^ k := by
  rw [halfTerm_of_pos hk, Nat.two_mul, Nat.two_pow_pred_add_two_pow_pred hk]

theorem halfTerm_lt_two_pow (k : Nat) : halfTerm k < 2 ^ k := by
  have hpos := Nat.two_pow_pos k
  rcases Nat.eq_zero_or_pos k with rfl | hk
  · simp
  · have := two_mul_halfTerm hk
    omega

/-! ### One sweep -/

/-- R59 needs no clamp: the truncation of `smooth` to a natural number loses nothing. -/
theorem smooth_cast (k demand draw : Nat) :
    (smooth k demand draw : Int) = demand + ((draw : Int) - demand + halfTerm k) / (2 ^ k : Nat) := by
  have hpos : (0 : Int) < (2 ^ k : Nat) := mod_cast Nat.two_pow_pos k
  have hmove : -(demand : Int) ≤ ((draw : Int) - demand + halfTerm k) / (2 ^ k : Nat) := by
    rw [Int.le_ediv_iff_mul_le hpos]
    have := le_mul_of_one_le_right (Int.natCast_nonneg demand) hpos
    rw [neg_mul]
    omega
  exact Int.toNat_of_nonneg (by omega)

/-- Where the new demand stands against any level `n`, by the distance to `n` scaled by the divisor. -/
theorem le_smooth_iff {n : Nat} :
    n ≤ smooth k demand draw ↔ ((n : Int) - demand) * (2 ^ k : Nat) ≤ (draw : Int) - demand + halfTerm k := by
  rw [← Int.le_ediv_iff_mul_le (mod_cast Nat.two_pow_pos k), sub_le_iff_le_add', ← smooth_cast, Nat.cast_le]

/-- The new demand is above the old one where the draw is, by what the half term lacks of the divisor. -/
theorem lt_smooth_iff : demand < smooth k demand draw ↔ demand + 2 ^ k ≤ draw + halfTerm k := by
  rw [← Nat.succ_le_iff, le_smooth_iff, Nat.cast_succ, add_sub_cancel_left, one_mul]
  omega

/-- The new demand is below the old one where the draw is, by more than the half term. -/
theorem smooth_lt_iff : smooth k demand draw < demand ↔ draw + halfTerm k < demand := by
  rw [← not_le, le_smooth_iff, sub_self, zero_mul]
  omega

/-! ### Bounds (R60) -/

theorem le_smooth_of_le (h : demand ≤ draw) : demand ≤ smooth k demand draw := by
  rw [← not_lt, smooth_lt_iff]
  omega

theorem smooth_le_of_le (h : draw ≤ demand) : smooth k demand draw ≤ demand := by
  have := halfTerm_lt_two_pow k
  rw [← not_lt, lt_smooth_iff]
  omega

/-- A rising demand does not pass the draw: the next level up is further away than the half term reaches. -/
theorem smooth_le_draw_of_le (h : demand ≤ draw) : smooth k demand draw ≤ draw := by
  have hhalf : (halfTerm k : Int) < (2 ^ k : Nat) := mod_cast halfTerm_lt_two_pow k
  have hscaled : (draw : Int) - demand ≤ ((draw : Int) - demand) * (2 ^ k : Nat) :=
    le_mul_of_one_le_right (by omega) (by omega)
  rw [← not_lt, ← Nat.succ_le_iff, le_smooth_iff, Nat.cast_succ, add_sub_right_comm, add_mul, one_mul]
  omega

/-- A falling demand does not pass the draw. -/
theorem draw_le_smooth_of_le (h : draw ≤ demand) : draw ≤ smooth k demand draw := by
  have hscaled : ((draw : Int) - demand) * (2 ^ k : Nat) ≤ (draw : Int) - demand :=
    (mul_le_mul_of_nonpos_left (mod_cast Nat.two_pow_pos k) (by omega)).trans_eq (mul_one _)
  rw [le_smooth_iff]
  omega

/-! ### The dead band (R61) -/

@[simp] theorem smooth_zero (demand draw : Nat) : smooth 0 demand draw = draw := by
  simp [smooth]

theorem lt_smooth_iff_of_pos (hk : 1 ≤ k) : demand < smooth k demand draw ↔ demand + 2 ^ (k - 1) ≤ draw := by
  have := two_mul_halfTerm hk
  rw [lt_smooth_iff, ← halfTerm_of_pos hk]
  omega

theorem smooth_lt_iff_of_pos (hk : 1 ≤ k) : smooth k demand draw < demand ↔ draw + 2 ^ (k - 1) < demand := by
  rw [smooth_lt_iff, halfTerm_of_pos hk]

/-- The demand rests where it moves neither up nor down. -/
theorem smooth_eq_iff_of_pos (hk : 1 ≤ k) :
    smooth k demand draw = demand ↔ demand ≤ draw + 2 ^ (k - 1) ∧ draw + 1 ≤ demand + 2 ^ (k - 1) := by
  rw [eq_iff_le_not_lt, ← not_lt, lt_smooth_iff_of_pos hk, smooth_lt_iff_of_pos hk]
  omega

/-! ### A constant draw -/

/-- A demand that moves ends nearer to the draw, since it moves toward it and does not pass it. -/
theorem smooth_dist_lt (hmove : smooth k demand draw ≠ demand) :
    ((draw : Int) - smooth k demand draw).natAbs < ((draw : Int) - demand).natAbs := by
  rcases le_total demand draw with h | h
  · have hup := le_smooth_of_le (k := k) h
    have hdraw := smooth_le_draw_of_le (k := k) h
    omega
  · have hdown := smooth_le_of_le (k := k) h
    have hdraw := draw_le_smooth_of_le (k := k) h
    omega

/-- Under a constant draw the demand comes to rest: each sweep that moves it brings it nearer. -/
theorem exists_iterate_smooth_rests (k demand draw : Nat) :
    ∃ n, Function.IsFixedPt (fun d => smooth k d draw) ((fun d => smooth k d draw)^[n] demand) := by
  by_cases hrest : smooth k demand draw = demand
  · exact ⟨0, hrest⟩
  · obtain ⟨n, hn⟩ := exists_iterate_smooth_rests k (smooth k demand draw) draw
    exact ⟨n + 1, hn⟩
termination_by ((draw : Int) - demand).natAbs
decreasing_by exact smooth_dist_lt hrest

/-- Settles O25: bounds and dead band compare the new demand with one level each, and where the iteration rests it is
in the band. -/
theorem smoothedDemandApproachesDraw : Obligations.SmoothedDemandApproachesDraw := by
  refine ⟨fun k demand draw _ => ⟨fun h => ?_, fun h => ?_⟩, ⟨fun k demand draw hk _ => ?_, smooth_zero⟩,
    fun k demand draw hk _ => ?_⟩
  · exact ⟨le_smooth_of_le h, smooth_le_draw_of_le h⟩
  · exact ⟨smooth_le_of_le h.le, draw_le_smooth_of_le h.le⟩
  · exact ⟨smooth_eq_iff_of_pos hk, (lt_smooth_iff_of_pos hk).mpr, (smooth_lt_iff_of_pos hk).mpr⟩
  · obtain ⟨n, hn⟩ := exists_iterate_smooth_rests k demand draw
    exact ⟨n, hn, (smooth_eq_iff_of_pos hk).mp hn⟩

end Sys2Proof.Machine
end

section
/-!
SUPPORT. SET_OUTLET: the action that its operand names, what a request that only facility ports may make leaves where its
checks do not look at the ports, what the request leaves in each case of R92, and the statement that the cases settle.
Equivalences are applied as `(e_iff).mp`, and branches are taken by `if_pos` and `if_neg`, so that proofs elaborated side
by side do not wait for one another.
-/

namespace Sys2Proof.Machine

/-! ### The operand -/

@[simp] theorem actionOf?_eq_some_iff {b : Byte} {a : Action} : actionOf? b = some a ↔ a.code = b := by
  unfold actionOf?
  constructor
  · intro h
    split_ifs at h <;> cases h <;> exact Eq.symm ‹_›
  · rintro rfl
    cases a <;> rfl

/-- OPEN and CLOSE are the only actions (Table 11-4). -/
theorem Action.exists_code_eq {b : Byte} (hb : b.toNat ≤ 1) : ∃ a : Action, a.code = b := by
  rcases Nat.le_one_iff_eq_zero_or_eq_one.mp hb with h | h
  · exact ⟨.opening, BitVec.eq_of_toNat_eq h.symm⟩
  · exact ⟨.closing, BitVec.eq_of_toNat_eq h.symm⟩

theorem Action.code_toNat_le_one (a : Action) : a.code.toNat ≤ 1 := by
  cases a <;> decide

theorem Action.code_toNat_eq_zero_iff {a : Action} : a.code.toNat = 0 ↔ a = .opening := by
  cases a <;> decide

theorem Action.code_toNat_eq_one_iff {a : Action} : a.code.toNat = 1 ↔ a = .closing := by
  cases a <;> decide

theorem Action.ite_opening_eq (a : Action) : (if a = .opening then .opening else .closing) = a := by
  cases a <;> rfl

/-- A relay stands where an action takes it when it is open for an OPEN or closed for a CLOSE. -/
theorem Action.eq_position_iff {r : Relay} {a : Action} :
    r = a.position ↔ (a = .opening ∧ r = .opened) ∨ (a = .closing ∧ r = .closed) := by
  cases a <;> simp [Action.position]

namespace State

variable {s : State} {p : Port} {o : OutletId} {a : Action} {w : BitVec 16} {b : Byte}

/-! ### A facility port's request at the rise of select -/

theorem writeRequest_facilityOnly (hr : s.role p = .facility) (take : State → State × Result) :
    s.writeRequest p .selectRises (facilityOnly p take) =
      (take (s.ensureFrame p)).1.endFrame p (take (s.ensureFrame p)).2 := by
  have hgate : facilityOnly p take (s.ensureFrame p) = take (s.ensureFrame p) :=
    if_pos ((ensureFrame_role s p p).trans hr)
  rw [writeRequest_rises s p (by simp [hr]), hgate]

/-- A request that is refused whatever the ports' records hold. -/
theorem writeRequest_refused {take : State → State × Result} {r : Result} (hr : s.role p = .facility)
    (ht : ∀ ports, take { s with ports := ports } = ({ s with ports := ports }, r)) :
    s.writeRequest p .selectRises (facilityOnly p take) = s.refuse p r := by
  have hframe : take (s.ensureFrame p) = (s.ensureFrame p, r) := by
    rw [ensureFrame_eq]
    exact ht _
  rw [writeRequest_facilityOnly hr, hframe]
  exact endFrame_ensureFrame s p r

/-- A request that is answered OK whatever the ports' records hold, and leaves new outlet records and a new queue. -/
theorem writeRequest_switched {take : State → State × Result} {outlets : Table Outlet 384} {queue : List Entry}
    (hr : s.role p = .facility)
    (ht : ∀ ports, take { s with ports := ports } =
      ({ s with ports := ports, outlets := outlets, queue := queue }, .ok)) :
    s.writeRequest p .selectRises (facilityOnly p take) =
      { s.answer p .ok id with outlets := outlets, queue := queue } := by
  have hframe : take (s.ensureFrame p) = ({ s.ensureFrame p with outlets := outlets, queue := queue }, .ok) := by
    rw [ensureFrame_eq]
    exact ht _
  calc s.writeRequest p .selectRises (facilityOnly p take)
      = { s.ensureFrame p with outlets := outlets, queue := queue }.endFrame p .ok := by
        rw [writeRequest_facilityOnly hr, hframe]
    _ = { (s.ensureFrame p).endFrame p .ok with outlets := outlets, queue := queue } := rfl
    _ = { s.answer p .ok id with outlets := outlets, queue := queue } := by rw [endFrame_ensureFrame]

/-! ### The checks ahead of the cases of R92 -/

theorem closing_iff : s.closing = true ↔ s.closer.close ≠ .idle := by
  unfold closing
  cases s.closer.close <;> simp

theorem setOutlet_of_closing (hc : s.closer.close ≠ .idle) : s.setOutlet p w b = (s, .busy) :=
  if_pos ((closing_iff).mpr hc)

section NotClosing
variable (hc : s.closer.close = .idle)
include hc

theorem setOutlet_of_outOfRange (hb : 383 < w.toNat ∨ 1 < b.toNat) : s.setOutlet p w b = (s, .range) := by
  refine (if_neg fun h => (closing_iff).mp h hc).trans ?_
  split
  case h_2 => rfl
  case h_1 o a ho ha =>
    have hw := (outletOf?_eq_some_iff).mp ho
    have hcode := (actionOf?_eq_some_iff).mp ha
    have := o.isLt
    have := Action.code_toNat_le_one a
    subst hcode
    omega

/-- An operand pair in range names an outlet, which SET_OUTLET turns to only where its module is used. -/
theorem setOutlet_of_inRange (ho : w.toNat = o.val) :
    s.setOutlet p w a.code = if s.used (moduleOfOutlet o) then s.setOutletCases p o a else (s, .range) := by
  refine (if_neg fun h => (closing_iff).mp h hc).trans ?_
  rw [(outletOf?_eq_some_iff).mpr ho.symm, (actionOf?_eq_some_iff).mpr rfl]

end NotClosing

/-! ### The cases of R92 -/

theorem entryOf_isSome_iff : (s.entryOf o).isSome = true ↔ ∃ e ∈ s.queue, e.outlet = o := by
  simp [entryOf]

theorem queueFull_iff : s.queueFull = true ↔ 32 ≤ s.queue.length :=
  decide_eq_true_iff

/-- A port's entry joins the tail where the queue has a place and no entry for the outlet (R96, R97). -/
theorem placeEntry_port (he : ¬ ∃ e ∈ s.queue, e.outlet = o) (hq : ¬ 32 ≤ s.queue.length) :
    s.placeEntry o a (.port p) =
      { s with
        queue := s.queue ++
          [{ outlet := o, action := a, origin := .port p, state := .pending, stale := .clear, offered := false }] } := by
  have hadmits : s.admits o (.port p) = true :=
    (s.admits_iff o _).mpr ⟨not_le.mp hq, fun e hmem heq => he ⟨e, hmem, heq⟩, fun _ h => nomatch h⟩
  exact if_pos hadmits

/-- The cause and the fault flag of an outlet adopted as opened (R92). -/
theorem clearFault_setCause (c : Cause) :
    (s.setCause o c).clearFault o =
      { s with outlets := s.outlets.modify o fun x => { x with cause := c, fault := false } } :=
  calc (s.setCause o c).clearFault o
      = { s with
          outlets := (s.outlets.modify o fun x => { x with cause := c }).modify o fun x =>
            { x with fault := false } } := rfl
    _ = _ := by rw [modify_modify]

theorem setOutletCases_of_shed (hx : (s.outlets.get o).cause = .shed) :
    s.setOutletCases p o a = (s, .curtailed) :=
  if_pos hx

section NotShed
variable (hx : (s.outlets.get o).cause ≠ .shed)
include hx

theorem setOutletCases_of_entry (he : ∃ e ∈ s.queue, e.outlet = o) :
    s.setOutletCases p o a = (s, .outletBusy) :=
  (if_neg hx).trans (if_pos ((entryOf_isSome_iff).mpr he))

variable (he : ¬ ∃ e ∈ s.queue, e.outlet = o)
include he

theorem setOutletCases_opened (hp : (s.outlets.get o).relay = .opened) :
    s.setOutletCases p o .opening =
      ({ s with outlets := s.outlets.modify o fun x => { x with cause := .admin, fault := false } }, .ok) :=
  calc s.setOutletCases p o .opening
      = ((s.setCause o .admin).clearFault o, .ok) :=
        (if_neg hx).trans <| (if_neg (mt (entryOf_isSome_iff).mp he)).trans <| if_pos hp
    _ = _ := by rw [clearFault_setCause]

theorem setOutletCases_closed (hp : (s.outlets.get o).relay = .closed) :
    s.setOutletCases p o .closing =
      ({ s with outlets := s.outlets.modify o fun x => { x with fault := false } }, .ok) :=
  (if_neg hx).trans <| (if_neg (mt (entryOf_isSome_iff).mp he)).trans <| if_pos hp

variable (hp : (s.outlets.get o).relay ≠ a.position)
include hp

theorem setOutletCases_of_full (hq : 32 ≤ s.queue.length) : s.setOutletCases p o a = (s, .busy) :=
  (if_neg hx).trans <| (if_neg (mt (entryOf_isSome_iff).mp he)).trans <| (if_neg hp).trans <|
    if_pos ((queueFull_iff).mpr hq)

theorem setOutletCases_placed (hq : ¬ 32 ≤ s.queue.length) :
    s.setOutletCases p o a =
      ({ s with
          outlets := s.outlets.modify o fun x => { x with fault := false }
          queue := s.queue ++
            [{ outlet := o, action := a, origin := .port p, state := .pending, stale := .clear, offered := false }] },
        .ok) :=
  calc s.setOutletCases p o a
      = ((s.placeEntry o a (.port p)).clearFault o, .ok) :=
        (if_neg hx).trans <| (if_neg (mt (entryOf_isSome_iff).mp he)).trans <| (if_neg hp).trans <|
          if_neg (mt (queueFull_iff).mp hq)
    _ = _ := by rw [placeEntry_port he hq]; rfl

end NotShed

/-! ### The command -/

section Command
variable (hr : s.role p = .facility) (hc : s.closer.close = .idle) (ho : w.toNat = o.val)
include hr hc ho

theorem exec_setOutlet_of_unused (hu : s.used (moduleOfOutlet o) = false) :
    exec (.setOutlet p .selectRises w a.code) s = .next (s.refuse p .range) :=
  congrArg _ <| writeRequest_refused hr fun ports =>
    (setOutlet_of_inRange (s := { s with ports := ports }) hc ho).trans (if_neg (Bool.eq_false_iff.mp hu))

variable (hu : s.used (moduleOfOutlet o) = true)
include hu

theorem exec_setOutlet_refused {r : Result}
    (ht : ∀ ports, setOutletCases p o a { s with ports := ports } = ({ s with ports := ports }, r)) :
    exec (.setOutlet p .selectRises w a.code) s = .next (s.refuse p r) :=
  congrArg _ <| writeRequest_refused hr fun ports =>
    (setOutlet_of_inRange (s := { s with ports := ports }) hc ho).trans <| (if_pos hu).trans (ht ports)

theorem exec_setOutlet_switched {outlets : Table Outlet 384} {queue : List Entry}
    (ht : ∀ ports, setOutletCases p o a { s with ports := ports } =
      ({ s with ports := ports, outlets := outlets, queue := queue }, .ok)) :
    exec (.setOutlet p .selectRises w a.code) s =
      .next { s.answer p .ok id with outlets := outlets, queue := queue } :=
  congrArg _ <| writeRequest_switched hr fun ports =>
    (setOutlet_of_inRange (s := { s with ports := ports }) hc ho).trans <| (if_pos hu).trans (ht ports)

end Command
end State

/-- Settles O59: the checks do not look at the ports, so the request's frame ends with what its case of R92 leaves; the
branches of the statement are the cases, in their order. -/
theorem setOutletByCases : Obligations.SetOutletByCases := by
  intro p w b s hr
  refine ⟨fun hc => ?_, fun hc hb => ?_, fun o hc ho hb => ?_⟩
  · exact congrArg _ (State.writeRequest_refused hr fun _ => State.setOutlet_of_closing hc)
  · exact congrArg _ (State.writeRequest_refused hr fun _ => State.setOutlet_of_outOfRange hc hb)
  obtain ⟨a, rfl⟩ := Action.exists_code_eq hb
  simp only [Action.code_toNat_eq_zero_iff, Action.code_toNat_eq_one_iff, Action.ite_opening_eq]
  split_ifs with hu hx he hopened hclosed hq
  · exact State.exec_setOutlet_of_unused hr hc ho hu
  all_goals replace hu := Bool.eq_true_of_not_eq_false hu
  · exact State.exec_setOutlet_refused hr hc ho hu fun _ => State.setOutletCases_of_shed hx
  · exact State.exec_setOutlet_refused hr hc ho hu fun _ => State.setOutletCases_of_entry hx he
  · obtain ⟨rfl, hp⟩ := hopened
    exact State.exec_setOutlet_switched hr hc ho hu fun _ => State.setOutletCases_opened hx he hp
  · obtain ⟨rfl, hp⟩ := hclosed
    exact State.exec_setOutlet_switched hr hc ho hu fun _ => State.setOutletCases_closed hx he hp
  all_goals have hp : (s.outlets.get o).relay ≠ a.position := fun h =>
    ((Action.eq_position_iff).mp h).elim hopened hclosed
  · exact State.exec_setOutlet_refused hr hc ho hu fun _ => State.setOutletCases_of_full hx he hp hq
  · exact State.exec_setOutlet_switched hr hc ho hu fun _ => State.setOutletCases_placed hx he hp hq

end Sys2Proof.Machine
end

section
/-!
SUPPORT. OPEN_AMENDMENT and TAKEOVER_AMENDMENT: a notice raised before the end of a frame stands beside that end, what
each of the two requests leaves in each state of the claim (R142, R144, R145, R154), and the statement that the cases
settle.
-/

namespace Sys2Proof.Machine
namespace State

variable {s : State} {p q : Port} {n : Nat} {c : Configuration}

/-! ### Notices and the end of a frame -/

theorem endFrame_role (s : State) (p q : Port) (r : Result) : (s.endFrame p r).role q = s.role q := by
  have hrole : ((s.endFrame p r).ports.get q).role = (s.ports.get q).role := by
    rw [endFrame_ports, Table.get_modify]
    split_ifs <;> rfl
  exact congrArg (fun x => if s.pins.resetLine then Role.disabled else x) hrole

/-- The end of a frame sets a port's result and frame, a notice its notice set: their order does not matter. -/
theorem endFrame_notify (s : State) (p : Port) (r : Result) (m : Notice) (who : Port → Bool) :
    (s.notify m who).endFrame p r = (s.endFrame p r).notify m who := by
  have hports : ((s.notify m who).endFrame p r).ports = ((s.endFrame p r).notify m who).ports :=
    Table.ext_get fun i => by
      rw [endFrame_ports, Table.get_modify, notify_get, notify_get, endFrame_role, endFrame_ports, Table.get_modify]
      split_ifs <;> rfl
  calc (s.notify m who).endFrame p r
      = { s.endFrame p r with ports := ((s.notify m who).endFrame p r).ports } := rfl
    _ = { s.endFrame p r with ports := ((s.endFrame p r).notify m who).ports } := by rw [hports]
    _ = (s.endFrame p r).notify m who := rfl

/-- Which ports are the other facility ports depends on the roles alone. -/
theorem otherFacility_congr {t : State} (p : Port) (h : ∀ r, t.role r = s.role r) :
    t.otherFacility p = s.otherFacility p :=
  funext fun r => congrArg (fun x => x == Role.facility && !(r == p)) (h r)

theorem ensureFrame_shadowCopy (s : State) (p : Port) : (s.ensureFrame p).shadowCopy = s.shadowCopy := by
  rw [ensureFrame_eq]
  rfl

/-- CLAIM_CHANGED with two ports excepted goes to the facility ports other than the first that are not the second. -/
theorem claimChanged_pair_eq_notify (s : State) (p q : Port) :
    s.claimChanged (fun r => r == p || r == q) = s.notify .claimChanged fun r => s.otherFacility p r && !(r == q) :=
  congrArg (s.notify .claimChanged) <| funext fun r =>
    calc (s.role r == .facility && !(r == p || r == q))
        = (s.role r == .facility && (!(r == p) && !(r == q))) := by rw [Bool.not_or]
      _ = (s.otherFacility p r && !(r == q)) := (Bool.and_assoc _ _ _).symm

/-! ### What the two requests do in each state of the claim -/

theorem openAmendment_of_idle (hc : s.claim = .idle) :
    s.openAmendment p = ((s.writeShadow p s.shadowCopy).1.notify .claimChanged (s.otherFacility p), .ok) := by
  cases s; cases hc; rfl

theorem openAmendment_of_claimant (hc : s.claim = .opened p n c) : s.openAmendment p = (s, .ok) := by
  cases s; cases hc; exact if_pos rfl

theorem openAmendment_of_otherClaimant (hc : s.claim = .opened q n c) (hq : q ≠ p) :
    s.openAmendment p = (s, .claimed) := by
  cases s; cases hc; exact if_neg hq

theorem openAmendment_of_sealed (hc : s.claim = .sealed c) : s.openAmendment p = (s, .pending) := by
  cases s; cases hc; rfl

theorem takeover_of_idle (hc : s.claim = .idle) : s.takeover p = (s, .noneOpen) := by
  cases s; cases hc; rfl

theorem takeover_of_claimant (hc : s.claim = .opened p n c) : s.takeover p = (s, .ok) := by
  cases s; cases hc; exact if_pos rfl

/-- The shadow passes as it is: a takeover writes it back under the requester's name. -/
theorem takeover_of_otherClaimant (hc : s.claim = .opened q n c) (hq : q ≠ p) :
    s.takeover p =
      (((s.writeShadow p c).1.notify .claimLost fun r => r == q).notify .claimChanged
        fun r => s.otherFacility p r && !(r == q), .ok) := by
  calc s.takeover p
      = (((s.writeShadow p c).1.notify .claimLost fun r => r == q).claimChanged fun r => r == p || r == q, .ok) := by
        cases s; cases hc; exact if_neg hq
    _ = (((s.writeShadow p c).1.notify .claimLost fun r => r == q).notify .claimChanged
          fun r => s.otherFacility p r && !(r == q), .ok) := by
        rw [claimChanged_pair_eq_notify, otherFacility_congr p (notify_role _ _ _)]
        rfl

theorem takeover_of_sealed (hc : s.claim = .sealed c) : s.takeover p = (s, .pending) := by
  cases s; cases hc; rfl

/-! ### The requests at the rise of select -/

theorem exec_openAmendment (p : Port) (s : State) :
    exec (.openAmendment p .selectRises) s =
      .next (s.writeRequest p .selectRises (facilityOnly p (openAmendment p))) := rfl

theorem exec_takeoverAmendment (p : Port) (s : State) :
    exec (.takeoverAmendment p .selectRises) s =
      .next (s.writeRequest p .selectRises (facilityOnly p (takeover p))) := rfl

theorem writeRequest_openAmendment_of_idle (hr : s.role p = .facility) (hc : s.claim = .idle) :
    s.writeRequest p .selectRises (facilityOnly p (openAmendment p)) =
      { s.answer p .ok id with claim := .opened p 0 s.shadowCopy }.notify .claimChanged (s.otherFacility p) := by
  have hclaim : (s.ensureFrame p).claim = .idle := (ensureFrame_claim s p).trans hc
  rw [writeRequest_facilityOnly hr, openAmendment_of_idle hclaim, endFrame_notify, endFrame_writeShadow,
    ensureFrame_shadowCopy, otherFacility_congr p (ensureFrame_role s p)]

theorem writeRequest_takeover_of_otherClaimant (hr : s.role p = .facility) (hc : s.claim = .opened q n c)
    (hq : q ≠ p) :
    s.writeRequest p .selectRises (facilityOnly p (takeover p)) =
      ({ s.answer p .ok id with claim := .opened p 0 c }.notify .claimLost fun r => r == q).notify .claimChanged
        fun r => s.otherFacility p r && !(r == q) := by
  have hclaim : (s.ensureFrame p).claim = .opened q n c := (ensureFrame_claim s p).trans hc
  rw [writeRequest_facilityOnly hr, takeover_of_otherClaimant hclaim hq, endFrame_notify, endFrame_notify,
    endFrame_writeShadow, otherFacility_congr p (ensureFrame_role s p)]

/-- A request that changes nothing ahead of its answer, whatever the ports' records hold. An OK answer to the claimant
restarts the idle timer (R144). -/
theorem writeRequest_answered {take : State → State × Result} {r : Result} (hr : s.role p = .facility)
    (ht : ∀ ports, take { s with ports := ports } = ({ s with ports := ports }, r)) :
    s.writeRequest p .selectRises (facilityOnly p take) = s.answer p r id :=
  writeRequest_refused hr ht

end State

/-- Settles O52: the claim is taken in IDLE by an open and in OPEN by a takeover from another port; in every other state
of the claim the request is answered and changes nothing more. -/
theorem openAndTakeoverTakeClaim : Obligations.OpenAndTakeoverTakeClaim := by
  refine ⟨fun p s hr => (State.exec_openAmendment p s).trans (congrArg Host.Outcome.next ?_),
    fun p s hr => (State.exec_takeoverAmendment p s).trans (congrArg Host.Outcome.next ?_)⟩
  · cases hc : s.claim with
    | idle => exact State.writeRequest_openAmendment_of_idle hr hc
    | opened q n c =>
      by_cases hq : q = p
      · subst hq
        exact (State.writeRequest_answered hr fun _ => State.openAmendment_of_claimant hc).trans (if_pos rfl).symm
      · exact (State.writeRequest_refused hr fun _ =>
          State.openAmendment_of_otherClaimant hc hq).trans (if_neg hq).symm
    | sealed c => exact State.writeRequest_refused hr fun _ => State.openAmendment_of_sealed hc
  · cases hc : s.claim with
    | idle => exact State.writeRequest_refused hr fun _ => State.takeover_of_idle hc
    | opened q n c =>
      by_cases hq : q = p
      · subst hq
        exact (State.writeRequest_answered hr fun _ => State.takeover_of_claimant hc).trans (if_pos rfl).symm
      · exact (State.writeRequest_takeover_of_otherClaimant hr hc hq).trans (if_neg hq).symm
    | sealed c => exact State.writeRequest_refused hr fun _ => State.takeover_of_sealed hc

end Sys2Proof.Machine
end

section
/-!
SUPPORT. CLEAR_NOTICES, SET_ALERT_MASK and RESET_PORT: when a port's ALERT output is asserted (R163), a request that
changes its own port's record and nothing else, what a port reset does besides to its port's claim (R155, R167), and the
statement that they settle.
-/

namespace Sys2Proof.Machine

/-! ### The ALERT output (R163) -/

theorem exists_getLsbD_iff_ne_zero {w : Nat} {x : BitVec w} : (∃ n : Fin w, x.getLsbD n.val = true) ↔ x ≠ 0 := by
  rw [Ne, BitVec.eq_of_getLsbD_eq_iff]
  simp only [Fin.exists_iff, BitVec.ofNat_eq_ofNat, BitVec.getLsbD_zero, not_forall, Bool.not_eq_false]

theorem PortState.alert_iff (q : PortState) :
    q.alert = true ↔ ∃ n : Fin 14, q.notices.getLsbD n.val = true ∧ q.mask.getLsbD n.val = true :=
  calc q.alert = true
      ↔ q.notices &&& q.mask ≠ 0 := decide_eq_true_iff
    _ ↔ ∃ n : Fin 14, (q.notices &&& q.mask).getLsbD n.val = true := (exists_getLsbD_iff_ne_zero).symm
    _ ↔ ∃ n : Fin 14, q.notices.getLsbD n.val = true ∧ q.mask.getLsbD n.val = true :=
        exists_congr fun n => by rw [BitVec.getLsbD_and, Bool.and_eq_true]

namespace State

variable {s : State} {p q : Port} {n : Nat} {c : Configuration}

/-! ### A port's change to its own record -/

/-- Where a request's change to its own port's record neither reads nor sets the frame, the status and the response, the
beginning of the frame does not show in what its end leaves. -/
theorem endFrame_updPort_of_frameFree (s : State) (p : Port) (r : Result) {f : PortState → PortState}
    (hf : ∀ x fr st rep, f { x with frame := fr, status := st, reply := rep } =
      { f x with frame := fr, status := st, reply := rep }) :
    ((s.ensureFrame p).updPort p f).endFrame p r = s.answer p r f :=
  have hkeeps : ∀ x, (f x).status = x.status ∧ (f x).reply = x.reply := fun x =>
    have hx : f x = { f x with frame := x.frame, status := x.status, reply := x.reply } :=
      hf x x.frame x.status x.reply
    ⟨(congrArg PortState.status hx :), (congrArg PortState.reply hx :)⟩
  (endFrame_updPort s p r f hkeeps).trans <| answer_congr s p r fun x _ _ => by rw [hf]

theorem updPort_role {f : PortState → PortState} (s : State) (p q : Port) (hf : ∀ x, (f x).role = x.role) :
    (s.updPort p f).role q = s.role q := by
  have hrole : ((s.updPort p f).ports.get q).role = (s.ports.get q).role := by
    rw [updPort_ports, Table.get_modify]
    split_ifs
    · exact hf _
    · rfl
  exact congrArg (fun x => if s.pins.resetLine then Role.disabled else x) hrole

/-! ### CLEAR_NOTICES and SET_ALERT_MASK (R163) -/

theorem exec_clearNotices (hr : s.role p ≠ .disabled) (field : BitVec 16) :
    exec (.clearNotices p .selectRises field) s =
      .next (s.answer p .ok fun x => { x with notices := x.notices &&& ~~~ noticeField field }) := by
  refine congrArg Host.Outcome.next ?_
  rw [writeRequest_rises s p hr]
  exact endFrame_updPort_of_frameFree s p .ok fun _ _ _ _ => rfl

theorem exec_setAlertMask (hr : s.role p ≠ .disabled) (field : BitVec 16) :
    exec (.setAlertMask p .selectRises field) s =
      .next (s.answer p .ok fun x => { x with mask := noticeField field }) := by
  refine congrArg Host.Outcome.next ?_
  rw [writeRequest_rises s p hr]
  exact endFrame_updPort_of_frameFree s p .ok fun _ _ _ _ => rfl

/-! ### RESET_PORT (R155, R167) -/

/-- The state in which port `p` has been answered OK and stands at its reset state, its role kept (R167). -/
def portWasReset (s : State) (p : Port) : State :=
  s.answer p .ok fun x => { x with notices := 0, mask := 0, delivery := .unsubscribed, skipped := 0 }

theorem endFrame_portReset (s : State) (p : Port) :
    ((s.ensureFrame p).updPort p portReset).endFrame p .ok = s.portWasReset p :=
  (endFrame_updPort_of_frameFree s p .ok fun _ _ _ _ => rfl).trans <| answer_congr s p .ok fun _ _ _ => rfl

/-- CLAIM_HELD depends on the claim alone. -/
theorem claimHeld_congr {k : Claim} (h : s.claim = k) : s.claimHeld p = { s with claim := k }.claimHeld p :=
  congrArg (fun k => { s with claim := k }.claimHeld p) h

theorem claimHeld_of_opened (hc : s.claim = .opened q n c) : s.claimHeld p = (q == p) := claimHeld_congr hc

theorem claimHeld_of_idle (hc : s.claim = .idle) : s.claimHeld p = false := claimHeld_congr hc

theorem claimHeld_of_sealed (hc : s.claim = .sealed c) : s.claimHeld p = false := claimHeld_congr hc

theorem ensureFrame_claimHeld (s : State) (p q : Port) : (s.ensureFrame p).claimHeld q = s.claimHeld q :=
  claimHeld_congr (ensureFrame_claim s p)

/-- The claim given up, and the shadow with it (R155). -/
def dropClaim (s : State) : State := { s with claim := .idle }

theorem endFrame_dropClaim (s : State) (p : Port) : s.dropClaim.endFrame p .ok = (s.endFrame p .ok).dropClaim := rfl

theorem resetPortTaken_of_held (h : s.claimHeld p = true) :
    resetPortTaken p s = ((s.updPort p portReset).dropClaim.notify .claimChanged (s.otherFacility p), .ok) := by
  have hwho : (s.updPort p portReset).dropClaim.otherFacility p = s.otherFacility p :=
    otherFacility_congr p fun q => updPort_role s p q fun _ => rfl
  calc resetPortTaken p s
      = ((s.updPort p portReset).dropClaim.claimChanged (· == p), .ok) := congrArg (·, Result.ok) (if_pos h)
    _ = ((s.updPort p portReset).dropClaim.notify .claimChanged (s.otherFacility p), .ok) := by
        rw [claimChanged_eq_notify, hwho]

theorem resetPortTaken_of_not_held (h : s.claimHeld p = false) :
    resetPortTaken p s = (s.updPort p portReset, .ok) :=
  congrArg (·, Result.ok) (if_neg (Bool.eq_false_iff.mp h))

/-- The claimant's reset drops the shadow with the claim (R155). -/
theorem exec_resetPort_of_held (hr : s.role p ≠ .disabled) (h : s.claimHeld p = true) :
    exec (.resetPort p .selectRises) s =
      .next ((s.portWasReset p).dropClaim.notify .claimChanged (s.otherFacility p)) := by
  refine congrArg Host.Outcome.next ?_
  rw [writeRequest_rises s p hr, resetPortTaken_of_held ((ensureFrame_claimHeld s p p).trans h), endFrame_notify,
    endFrame_dropClaim, endFrame_portReset, otherFacility_congr p (ensureFrame_role s p)]

theorem exec_resetPort_of_not_held (hr : s.role p ≠ .disabled) (h : s.claimHeld p = false) :
    exec (.resetPort p .selectRises) s = .next (s.portWasReset p) := by
  refine congrArg Host.Outcome.next ?_
  rw [writeRequest_rises s p hr, resetPortTaken_of_not_held ((ensureFrame_claimHeld s p p).trans h)]
  exact endFrame_portReset s p

end State

/-- Settles O47: each of the three requests changes its own port's record by a function that does not touch the frame;
what a port reset does to the claim turns on whether its port is the claimant. -/
theorem noticeRequestsAndResetPortChangeOwnPort : Obligations.NoticeRequestsAndResetPortChangeOwnPort := by
  refine ⟨fun p field s hr => ⟨State.exec_clearNotices hr field, State.exec_setAlertMask hr field,
    PortState.alert_iff⟩, fun p s hr => ?_⟩
  cases hc : s.claim with
  | opened q n c =>
    by_cases hq : q = p
    · have hheld : s.claimHeld p = true := (State.claimHeld_of_opened hc).trans (beq_iff_eq.mpr hq)
      exact (State.exec_resetPort_of_held hr hheld).trans (congrArg _ (if_pos hq).symm)
    · have hnot : s.claimHeld p = false := (State.claimHeld_of_opened hc).trans (beq_eq_false_iff_ne.mpr hq)
      exact (State.exec_resetPort_of_not_held hr hnot).trans (congrArg _ (if_neg hq).symm)
  | idle => exact State.exec_resetPort_of_not_held hr (State.claimHeld_of_idle hc)
  | sealed c => exact State.exec_resetPort_of_not_held hr (State.claimHeld_of_sealed hc)

end Sys2Proof.Machine
end
